-- ==== Sys2Proof/Word.lean ====
section
/-! DEFINITION. The widths the spec uses for whole values: the 32-bit register word of rule R6 and the 8-bit frame byte
of rule R52. Every narrower field has its own width in `Machine/State.lean`. -/

namespace Sys2Proof

/-- A register value on the port, 32 bits (R6 "register data width", R54). -/
abbrev Word := BitVec 32

/-- A frame byte, 8 bits (R52, R81). -/
abbrev Byte := BitVec 8

end Sys2Proof
end

