-- ==== Sys2Proof/Config.lean ====
section
/-! DEFINITION. What the build fixes (R6), the phase codes (R21), the error kinds (R170), and the free values: the OPEN clock
frequency (R6, U9), the level of the line where no stimulus is listed (R7, D32), and the synchroniser's contents at reset
(R38, U8). A free value is an opaque constant without a body. -/

namespace Sys2Proof.Config

/-- `START_LOW_TICKS` (NL): 18 ms of low drive (R6). -/
def startLowTicks : Nat := 18000

/-- `START_HIGH_TICKS` (NH): 30 us of high drive (R6). -/
def startHighTicks : Nat := 30

/-- `TIMEOUT_LIMIT` (TL): the longest run a wait phase accepts (R6, R120). -/
def timeoutLimit : Nat := 100

/-- `BIT_THRESHOLD` (TH): a longer high phase is a 1 (R6, R100). -/
def bitThreshold : Nat := 30

/-- `N_BITS`: the wire bits of one frame (R6). -/
def frameBits : Nat := 40

/-- What `CLK_PER_TICK` exceeds its smallest value by.
OPEN in the spec (R6, U9): a free value (assumption 2). -/
opaque clockExcess : Nat

/-- `CLK_PER_TICK = F_CLK_HZ / 1 000 000`: a free value, at least 2 because `F_CLK_HZ` is at least 2 000 000 (R6). -/
def clkPerTick : Nat := clockExcess + 2

/-- `F_CLK_HZ`, an integer multiple of 1 000 000 (R6). -/
def fClkHz : Nat := clkPerTick * 1000000

/-- The line's level in a clock cycle for which no stimulus is listed: a free draw (R7, D32; assumption 3). -/
opaque freeLine : Nat → Bool

/-- What a synchroniser stage holds after a reset: unspecified, any value (R38, U8; assumption 4). -/
opaque freeSync : Nat → Bool

end Sys2Proof.Config

namespace Sys2Proof

/-! The phase codes of R21. `phase` itself is a 4-bit register that software reads whole (R77), and codes 12 to 15 exist in
its encoding, so it stays a bit vector. -/

namespace Phase

abbrev idle      : BitVec 4 := 0
abbrev prep      : BitVec 4 := 1
abbrev startLow  : BitVec 4 := 2
abbrev startHigh : BitVec 4 := 3
abbrev ack1      : BitVec 4 := 4
abbrev ack2      : BitVec 4 := 5
abbrev ack3      : BitVec 4 := 6
abbrev bitLow    : BitVec 4 := 7
abbrev bitHigh   : BitVec 4 := 8
abbrev checksum  : BitVec 4 := 9
abbrev success   : BitVec 4 := 10
abbrev failure   : BitVec 4 := 11

end Phase

/-- The six error kinds of the source (R170); the index of a bit timeout is held apart, in `errbit`. -/
inductive ErrKind where
  | noResponse
  | responseTimeout1
  | responseTimeout2
  | bitTimeoutRising
  | bitTimeoutHigh
  | checksumError
deriving DecidableEq, Repr

end Sys2Proof
end

