-- ==== Sys2Proof/Syntax.lean ====
section
/-! DEFINITION. The instructions: one constructor per row of spec/opcode_table.json, with the operands the row's encoding
carries (R70 to R74, R82, R84), and the word an event presents to the decoder (R70). The block runs no stored program: its
instructions are the events that step it. -/

namespace Sys2Proof

/-- One event of the block, or one of its internal combinational operations. -/
inductive Instr where
  /-- R152, HT. -/
  | cmdNop
  /-- R153, HT. -/
  | cmdStart
  /-- R154, HT. -/
  | cmdClear
  /-- R155, HT: a command word other than 0, 1 and 2. -/
  | cmdRsvd (data : Word)
  /-- R151, HT. -/
  | wrCtrl (data : Word)
  /-- R158, HT: a write to index 2 or 3. -/
  | wrIgnored23 (idx : BitVec 3) (data : Word)
  /-- R158, HT: a write to index 4, 5, 6 or 7. -/
  | wrIgnored47 (idx : BitVec 3) (data : Word)
  /-- R157, HT: DATA is ignored, and is no operand. -/
  | rd (idx : BitVec 3)
  /-- R121, PH, P = 0. Every PH event carries the sample S. -/
  | tickIdle (s : Bool)
  /-- R122, PH, P = 1. -/
  | tickPrep (s : Bool)
  /-- R124, PH, P = 2. -/
  | tickStartLow (s : Bool)
  /-- R125, PH, P = 3. -/
  | tickStartHigh (s : Bool)
  /-- R126, PH, P = 4. -/
  | tickAck1 (s : Bool)
  /-- R127, PH, P = 5. -/
  | tickAck2 (s : Bool)
  /-- R128, PH, P = 6. -/
  | tickAck3 (s : Bool)
  /-- R129, PH, P = 7. -/
  | tickBitLow (s : Bool)
  /-- R130, PH, P = 8. -/
  | tickBitHigh (s : Bool)
  /-- R132, PH, P = 9. -/
  | tickChecksum (s : Bool)
  /-- R134, PH, P = 10. -/
  | tickSuccess (s : Bool)
  /-- R134, PH, P = 11. -/
  | tickFailure (s : Bool)
  /-- R135, PH, P in 12..15. -/
  | tickUnreachable (p : BitVec 4) (s : Bool)
  /-- R190, RST. -/
  | reset
  /-- R100, INTERNAL: `D`, the measured high duration. -/
  | classify (d : BitVec 15)
  /-- R102, INTERNAL: `b`, the bit to shift in. -/
  | shiftIn (b : Bool)
  /-- R103, INTERNAL: its operands are the frame bytes. -/
  | checksumOk
  /-- R104, INTERNAL: its operands are frame bytes 0 and 2, and `ok`. -/
  | extract
deriving DecidableEq, Repr

/-- The three event formats of R70; the producing agent decides the format. -/
inductive Format where
  | ht
  | ph
  | rst
deriving DecidableEq, Repr

/-- An event as the decoder sees it: the agent's format and the bits (R70 to R73). -/
inductive EventWord where
  /-- A host transaction, 36 bits (R71). -/
  | ht (w : BitVec 36)
  /-- A tick dispatch, 5 bits (R72). -/
  | ph (w : BitVec 5)
  /-- The level of `rst_n`, 1 bit (R73). -/
  | rst (w : BitVec 1)
deriving DecidableEq, Repr

/-- Why the decoder takes bits for no event. -/
inductive DecodeError where
  /-- The number has bits above the format's length (R70: 36, 5 or 1). -/
  | tooWide (f : Format)
  /-- The RST word is 1: `rst_n` is high, and there is no reset event (R73). -/
  | resetNotAsserted
deriving DecidableEq, Repr

end Sys2Proof
end

