-- ==== Sys2Proof/WellFormed.lean ====
section
/-! DEFINITION. The operand ranges the spec gives each instruction. -/

namespace Sys2Proof

/-- The check on an instruction's operands: CMD_RSVD's word is not 0, 1 or 2 (R155); the two WR_IGNORED rows hold the indices
their encodings hold (R158); TICK_UNREACHABLE's P is 12 to 15 (R135); CLASSIFY's duration is `1 <= D <= TL` (R100). -/
def Instr.wellFormed : Instr → Bool
  | .cmdRsvd data => data ≠ 0 && data ≠ 1 && data ≠ 2
  | .wrIgnored23 idx _ => idx = 2 || idx = 3
  | .wrIgnored47 idx _ => decide (4 ≤ idx.toNat)
  | .tickUnreachable p _ => decide (12 ≤ p.toNat)
  | .classify d => decide (1 ≤ d.toNat) && decide (d.toNat ≤ Config.timeoutLimit)
  | .cmdNop | .cmdStart | .cmdClear | .wrCtrl _ | .rd _ => true
  | .tickIdle _ | .tickPrep _ | .tickStartLow _ | .tickStartHigh _ | .tickAck1 _ | .tickAck2 _ | .tickAck3 _ => true
  | .tickBitLow _ | .tickBitHigh _ | .tickChecksum _ | .tickSuccess _ | .tickFailure _ => true
  | .reset | .shiftIn _ | .checksumOk | .extract => true

end Sys2Proof
end

