-- ==== Sys2Proof/Decode.lean ====
section
/-! DEFINITION. The decoder of R84, total on every word of every format, and the encoder written from the same tables
(R71 to R74). -/

namespace Sys2Proof

/-- `DATA`, bits [31:0] of an HT word (R71). -/
def htData (w : BitVec 36) : Word := w.extractLsb' 0 32

/-- `IDX`, bits [34:32] of an HT word (R71). -/
def htIdx (w : BitVec 36) : BitVec 3 := w.extractLsb' 32 3

/-- `W`, bit 35 of an HT word: true is a write (R71). -/
def htWrite (w : BitVec 36) : Bool := w.getLsbD 35

/-- `P`, bits [4:1] of a PH word (R72). -/
def phPhase (w : BitVec 5) : BitVec 4 := w.extractLsb' 1 4

/-- `S`, bit 0 of a PH word (R72). -/
def phSample (w : BitVec 5) : Bool := w.getLsbD 0

/-- HT words, the rows of the opcode table by mask and match in the priority of R84. The last row, RD, takes what is left. -/
def decodeHT (w : BitVec 36) : Instr :=
  if w = 0x900000000 then .cmdNop
  else if w = 0x900000001 then .cmdStart
  else if w = 0x900000002 then .cmdClear
  else if w &&& 0xF00000000 = 0x900000000 then .cmdRsvd (htData w)
  else if w &&& 0xF00000000 = 0x800000000 then .wrCtrl (htData w)
  else if w &&& 0xE00000000 = 0xA00000000 then .wrIgnored23 (htIdx w) (htData w)
  else if w &&& 0xC00000000 = 0xC00000000 then .wrIgnored47 (htIdx w) (htData w)
  else .rd (htIdx w)

/-- PH words decode on P alone; P in 12..15 is TICK_UNREACHABLE (R84). -/
def decodePH (w : BitVec 5) : Instr :=
  match (phPhase w).toNat with
  | 0 => .tickIdle (phSample w)
  | 1 => .tickPrep (phSample w)
  | 2 => .tickStartLow (phSample w)
  | 3 => .tickStartHigh (phSample w)
  | 4 => .tickAck1 (phSample w)
  | 5 => .tickAck2 (phSample w)
  | 6 => .tickAck3 (phSample w)
  | 7 => .tickBitLow (phSample w)
  | 8 => .tickBitHigh (phSample w)
  | 9 => .tickChecksum (phSample w)
  | 10 => .tickSuccess (phSample w)
  | 11 => .tickFailure (phSample w)
  | _ => .tickUnreachable (phPhase w) (phSample w)

/-- The decoder: every HT and PH word is an event; the RST word is one when it is 0 (R73), and none
when it is 1 (DESIGN CHOICE, assumption 8). -/
def decode : EventWord → Except DecodeError Instr
  | .ht w => .ok (decodeHT w)
  | .ph w => .ok (decodePH w)
  | .rst w => if w = 0 then .ok .reset else .error .resetNotAsserted

/-- A number read as an event word of a format; bits above the format's length are refused. -/
def eventWordOf (f : Format) (n : Nat) : Except DecodeError EventWord :=
  match f with
  | .ht => if n < 2 ^ 36 then .ok (.ht (BitVec.ofNat 36 n)) else .error (.tooWide .ht)
  | .ph => if n < 2 ^ 5 then .ok (.ph (BitVec.ofNat 5 n)) else .error (.tooWide .ph)
  | .rst => if n < 2 then .ok (.rst (BitVec.ofNat 1 n)) else .error (.tooWide .rst)

/-- The number a list of bytes stands for, the first byte lowest. -/
def bytesToNat : List Byte → Nat
  | [] => 0
  | b :: rest => b.toNat + 256 * bytesToNat rest

/-- The decoder on a number, in the format of the agent that produced it. -/
def decodeNat (f : Format) (n : Nat) : Except DecodeError Instr :=
  match eventWordOf f n with
  | .ok e => decode e
  | .error r => .error r

/-- The decoder on any bytes. -/
def decodeBytes (f : Format) (bytes : List Byte) : Except DecodeError Instr :=
  decodeNat f (bytesToNat bytes)

/-- An HT word from its fields (R71). -/
def htWord (write : Bool) (idx : BitVec 3) (data : Word) : BitVec 36 :=
  BitVec.ofBool write ++ idx ++ data

/-- A PH word from its fields (R72). -/
def phWord (p : BitVec 4) (s : Bool) : BitVec 5 :=
  p ++ BitVec.ofBool s

/-- The encoder. The four INTERNAL rows have no encoding (R100, R102, R103, R104: "no event of its own"). A read's DATA bits are
`x` in its pattern; the encoder writes 0 there. -/
def encode : Instr → Option EventWord
  | .cmdNop => some (.ht (htWord true 1 0))
  | .cmdStart => some (.ht (htWord true 1 1))
  | .cmdClear => some (.ht (htWord true 1 2))
  | .cmdRsvd data => some (.ht (htWord true 1 data))
  | .wrCtrl data => some (.ht (htWord true 0 data))
  | .wrIgnored23 idx data => some (.ht (htWord true idx data))
  | .wrIgnored47 idx data => some (.ht (htWord true idx data))
  | .rd idx => some (.ht (htWord false idx 0))
  | .tickIdle s => some (.ph (phWord 0 s))
  | .tickPrep s => some (.ph (phWord 1 s))
  | .tickStartLow s => some (.ph (phWord 2 s))
  | .tickStartHigh s => some (.ph (phWord 3 s))
  | .tickAck1 s => some (.ph (phWord 4 s))
  | .tickAck2 s => some (.ph (phWord 5 s))
  | .tickAck3 s => some (.ph (phWord 6 s))
  | .tickBitLow s => some (.ph (phWord 7 s))
  | .tickBitHigh s => some (.ph (phWord 8 s))
  | .tickChecksum s => some (.ph (phWord 9 s))
  | .tickSuccess s => some (.ph (phWord 10 s))
  | .tickFailure s => some (.ph (phWord 11 s))
  | .tickUnreachable p s => some (.ph (phWord p s))
  | .reset => some (.rst 0)
  | .classify _ => none
  | .shiftIn _ => none
  | .checksumOk => none
  | .extract => none

/-- The format of a word that is given only as a number and a length, as the opcode table's rows are: more than 8 bits is HT
(36), 1 bit is RST. In whole bytes a PH row (5 bits) and the RST row (1 bit) are both 8 bits long and share the number 0, which
is taken for RST, the only number RST has (assumption 8). The machine's own fetch never asks this: there the agent is known. -/
def tableFormat (nbits w : Nat) : Format :=
  if 8 < nbits then .ht
  else if nbits = 1 then .rst
  else if nbits = 8 ∧ w = 0 then .rst
  else .ph

/-- The instruction the decoder reads from a row of the opcode table. -/
def decodeTableWord (nbits w : Nat) : Option Instr :=
  match decodeNat (tableFormat nbits w) w with
  | .ok i => some i
  | .error _ => none

end Sys2Proof
end

