-- ==== Sys2Proof/Machine/State.lean ====
section
/-! DEFINITION. The state, the reasons a step can stop, and the state after reset (R20 to R34, R38). -/

namespace Sys2Proof.Machine

/-- Why the machine stops with a fault. No event of the block itself faults: "No encoding traps the host" (R83). -/
inductive Fault where
  /-- Raised by a bus access whose byte offset is a multiple of 4 above 0x1C: the block's one address space has 8 word
  registers and no more (R50). Safe: the model stops where the spec gives no register. -/
  | noSuchRegister (offset : Nat)
deriving DecidableEq, Repr

/-- Why the machine gives an event no meaning. -/
inductive Refusal where
  /-- Raised by `exec` for an instruction that has no meaning yet; no arm of this model does. Safe. -/
  | notModelled (mnemonic : String)
  /-- Raised by TICK_UNREACHABLE: a tick in phase 12 to 15 is refused, as R135 orders. Safe: reached only from a state the
  hardware cannot reach. -/
  | unreachablePhase (p : BitVec 4)
  /-- Raised by a bus access that is not 4 bytes at a multiple of 4: a model "refuses every other shape by name" (R54). Safe. -/
  | notWholeRegister (offset size : Nat)
deriving DecidableEq, Repr

/-- An event of the block, in the total order in which events are performed (R60). -/
inductive Event where
  /-- A host transaction on the register port: the 36-bit HT word (R71). -/
  | host (word : BitVec 36)
  /-- A host access as a bus bridge receives it, `MemRead` or `MemWrite` at a byte offset (R9, R54). -/
  | bus (write : Bool) (offset size : Nat) (data : Word)
  /-- A tick of the sequencer with the line sample of the tick (R7, R72). -/
  | tick (sample : Bool)
  /-- The reset event (R73, R190). -/
  | rst
deriving DecidableEq, Repr

/-- What the outside presents in one clock cycle (R35): the level of `rst_n`, the level of the line, and the host's access if
there is one, as an HT word (`reg_we`, `reg_idx`, `reg_wdata`). -/
structure CycleIn where
  rstN : Bool
  line : Bool
  host : Option (BitVec 36)
deriving DecidableEq, Repr

/-- The state: the fields of R20 (the working registers, the host-visible state, the hidden timing state and the `rst_n` level),
the reset-release stages of R191, the read data of the port (R35), and the model's own fields. -/
structure State where
  /-- The sequencer's state, the block's program counter (R21). -/
  phase : BitVec 4
  /-- The phase counter (R24). -/
  cnt : BitVec 15
  /-- The index of the bit being decoded (R25). -/
  bitIdx : BitVec 6
  /-- The frame shift register (R26). -/
  shreg : BitVec 40
  /-- Interrupt enable (R27). -/
  ie : Bool
  /-- A transaction has ended and its result is not cleared (R28). -/
  done : Bool
  /-- The last transaction ended in SUCCESS and is not cleared (R29). -/
  ok : Bool
  /-- A command was rejected (R30). -/
  cmderr : Bool
  /-- The failure reason (R31). -/
  errcode : BitVec 4
  /-- The bit index of a bit timeout (R32). -/
  errbit : BitVec 6
  /-- The prescaler (R33), below `Config.clkPerTick`. -/
  presc : Nat
  /-- The synchroniser's first stage, fed by `line_i` (R34). -/
  sync1 : Bool
  /-- The synchroniser's second stage, the sample (R34). -/
  sync2 : Bool
  /-- The level of the `rst_n` input (R20). -/
  rstN : Bool
  /-- The first stage of the reset-release synchroniser (R191). -/
  rstS1 : Bool
  /-- The second stage: the block is out of reset when it is set (R191). -/
  rstS2 : Bool
  /-- `reg_rdata` as the last read returned it (R35, R157). -/
  rdata : Word
  /-- The model's own: the value of the last internal combinational operation run by itself (assumption 6). -/
  opOut : Word
  /-- The model's own: how many free values have been drawn (assumptions 3 and 4). -/
  draws : Nat
  /-- The model's own: what the outside presents in the coming clock cycles, the next one first (assumption 1). -/
  inputs : List CycleIn
  /-- The model's own: the events not yet performed, the next one first (assumption 1). -/
  events : List Event
deriving DecidableEq, Repr

/-- The machine right after reset: R38's value in every field it names. The stages of the synchroniser, which R38 leaves
unspecified, hold the idle line's level, high (R12; assumption 5); the release stages say that the block has left reset
(assumption 5); nothing is pending. -/
def State.reset : State where
  phase := Phase.idle
  cnt := 0
  bitIdx := 0
  shreg := 0
  ie := false
  done := false
  ok := false
  cmderr := false
  errcode := 0
  errbit := 0
  presc := 0
  sync1 := true
  sync2 := true
  rstN := true
  rstS1 := true
  rstS2 := true
  rdata := 0
  opOut := 0
  draws := 0
  inputs := []
  events := []

end Sys2Proof.Machine
end

