-- ==== Sys2Proof/Machine/Flags.lean ====
section
/-! DEFINITION. The derived signals, the outputs and the flag computations: `busy`, the pad, `irq`, `excl`, the error codes and
the checksum's verdict. -/

namespace Sys2Proof.Machine

/-- `busy = (1 <= phase <= 9)` (R23). -/
def State.busy (s : State) : Bool :=
  decide (1 ≤ s.phase.toNat) && decide (s.phase.toNat ≤ 9)

/-- `line_oe`: the pad drives in PREP, START_LOW and START_HIGH (R36). -/
def State.lineOe (s : State) : Bool :=
  s.phase = Phase.prep || s.phase = Phase.startLow || s.phase = Phase.startHigh

/-- `line_o`: low only in START_LOW (R36). -/
def State.lineO (s : State) : Bool :=
  !decide (s.phase = Phase.startLow)

/-- `line_pu`: the pull-up is always enabled (R36). -/
def State.linePu (_s : State) : Bool :=
  true

/-- `irq = ie & done` (R178). -/
def State.irq (s : State) : Bool :=
  s.ie && s.done

/-- `excl`: the exclusive window, phases 2 to 9 (R179). -/
def State.excl (s : State) : Bool :=
  decide (2 ≤ s.phase.toNat) && decide (s.phase.toNat ≤ 9)

/-- The block is in reset while `rst_n` is low and until the second clock edge after it rises (R190, R191). -/
def State.inReset (s : State) : Bool :=
  !s.rstN || !s.rstS2

/-- The code `errcode` records for an error kind (R170). -/
def errCode : ErrKind → BitVec 4
  | .noResponse => 1
  | .responseTimeout1 => 2
  | .responseTimeout2 => 3
  | .bitTimeoutRising => 4
  | .bitTimeoutHigh => 5
  | .checksumError => 6

/-- The error kind of a code; 0 is none and 7 to 15 are reserved (R170). -/
def errKindOf (code : BitVec 4) : Option ErrKind :=
  match code.toNat with
  | 1 => some .noResponse
  | 2 => some .responseTimeout1
  | 3 => some .responseTimeout2
  | 4 => some .bitTimeoutRising
  | 5 => some .bitTimeoutHigh
  | 6 => some .checksumError
  | _ => none

/-- The frame byte view `fb(k) = shreg[39 - 8k : 32 - 8k]` (R101). -/
def frameByte (shreg : BitVec 40) (k : Fin 5) : Byte :=
  shreg.extractLsb' (32 - 8 * k.val) 8

/-- `sum10`: the first four frame bytes added in 10 bits (R103). -/
def frameSum (shreg : BitVec 40) : BitVec 10 :=
  (frameByte shreg 0).setWidth 10 + (frameByte shreg 1).setWidth 10
    + (frameByte shreg 2).setWidth 10 + (frameByte shreg 3).setWidth 10

/-- CHECKSUM_OK: `sum10[7:0] == fb(4)` (R103). -/
def checksumGood (shreg : BitVec 40) : Bool :=
  (frameSum shreg).extractLsb' 0 8 == frameByte shreg 4

end Sys2Proof.Machine
end

