-- ==== Sys2Proof/Machine/Operands.lean ====
section
/-! DEFINITION. The operands and values instructions compute: bit classification, frame assembly, the read value of every
register and the shape of a host access. -/

namespace Sys2Proof.Machine

/-- CLASSIFY: a high phase of more than TH ticks is a 1 (R100). -/
def classifyBit (d : Nat) : Bool :=
  decide (Config.bitThreshold < d)

/-- SHIFT_IN: `{shreg[38:0], b}` (R102). -/
def shiftInBit (shreg : BitVec 40) (b : Bool) : BitVec 40 :=
  shreg.extractLsb' 0 39 ++ BitVec.ofBool b

/-- A level or flag as a word, `zext_32`. -/
def boolWord (b : Bool) : Word :=
  (BitVec.ofBool b).setWidth 32

/-- STATUS, by R77's formula. -/
def State.statusWord (s : State) : Word :=
  boolWord s.busy ||| boolWord s.done <<< 1 ||| boolWord s.ok <<< 2 ||| boolWord s.cmderr <<< 3
    ||| s.errcode.setWidth 32 <<< 4 ||| s.errbit.setWidth 32 <<< 8 ||| s.phase.setWidth 32 <<< 16

/-- FRAME_LO: frame bytes 3 to 0, while `ok` (R78). -/
def State.frameLo (s : State) : Word :=
  if s.ok then
    frameByte s.shreg 3 ++ frameByte s.shreg 2 ++ frameByte s.shreg 1 ++ frameByte s.shreg 0
  else 0

/-- FRAME_HI: the checksum byte, while `ok` (R79). -/
def State.frameHi (s : State) : Word :=
  if s.ok then (frameByte s.shreg 4).setWidth 32 else 0

/-- EXTRACT, the READING register: the temperature byte above the humidity byte, while `ok` (R80, R104). -/
def State.reading (s : State) : Word :=
  if s.ok then (frameByte s.shreg 2 ++ frameByte s.shreg 0).setWidth 32 else 0

/-- `rdval(idx)`: the read value of every register (R150). -/
def State.rdval (s : State) (idx : BitVec 3) : Word :=
  match idx.toNat with
  | 0 => boolWord s.ie
  | 2 => s.statusWord
  | 3 => s.frameLo
  | 4 => s.frameHi
  | 5 => s.reading
  | _ => 0

/-- The HT word of a bus access (R9, R53, R54): a whole register at byte offset `4 * idx`, `idx` in 0..7. Another shape is
refused by name, and a whole word above the last register does not exist. -/
def busWord (write : Bool) (offset size : Nat) (data : Word) : Host.Outcome (BitVec 36) Fault Refusal :=
  if size ≠ 4 ∨ offset % 4 ≠ 0 then .refused (.notWholeRegister offset size)
  else if 0x1C < offset then .fault (.noSuchRegister offset)
  else .next (htWord write (BitVec.ofNat 3 (offset / 4)) data)

end Sys2Proof.Machine
end

