-- ==== Sys2Proof/Machine/Ops.lean ====
section
/-! DEFINITION. The shared operations: entering a phase, the wait step, failure entry (the block's exception entry, R180),
success entry, leaving the terminal phases (R183), command rejection, the register reads and writes, reset, and the clock cycle
that orders the events of one cycle (R33, R34, R60, R190, R191). -/

namespace Sys2Proof.Machine

/-- An effect that reset suppresses: while the block is in reset, ticks have no effect and host writes are ignored (R190). -/
def outsideReset (f : State → State) (s : State) : State :=
  if s.inReset then s else f s

/-- The state with other pending events. -/
def State.withEvents (es : List Event) (s : State) : State :=
  { s with events := es }

/-- `phase <- p; cnt <- c`. -/
def State.enter (p : BitVec 4) (c : BitVec 15) (s : State) : State :=
  { s with phase := p, cnt := c }

/-- `cnt <- cnt + 1`. -/
def State.count (s : State) : State :=
  { s with cnt := s.cnt + 1 }

/-- Failure entry, `raise Fail(code, i)` (R180): `bit_idx`, `ie` and `cmderr` are unchanged. -/
def State.failEntry (kind : ErrKind) (i : BitVec 6) (s : State) : State :=
  { s with
    phase := Phase.failure
    done := true
    ok := false
    errcode := errCode kind
    errbit := i
    cnt := 0
    shreg := 0 }

/-- SUCCESS_ENTRY (R133): `shreg` and `bit_idx` are kept, `cmderr` and `ie` are unchanged. -/
def State.successEntry (s : State) : State :=
  { s with
    phase := Phase.success
    done := true
    ok := true
    errcode := 0
    errbit := 0
    cnt := 0 }

/-- The common part of START and CLEAR (R153, R154), the only way but reset out of SUCCESS and FAILURE (R183): the old result
goes and the sequencer takes phase `p`. -/
def State.restart (p : BitVec 4) (s : State) : State :=
  { s with
    phase := p
    cnt := 0
    bitIdx := 0
    shreg := 0
    done := false
    ok := false
    errcode := 0
    errbit := 0 }

/-- An accepted CLEAR: back to IDLE, `cmderr` cleared too (R154). -/
def State.clearResult (s : State) : State :=
  { s.restart Phase.idle with cmderr := false }

/-- A rejected command sets `cmderr` and changes nothing else (R156, R177). -/
def State.rejectCmd (s : State) : State :=
  { s with cmderr := true }

/-- A command that is rejected while the block is busy (R156). -/
def whenIdle (f : State → State) (s : State) : State :=
  if s.busy then s.rejectCmd else f s

/-- Write CTRL: bit 0 is `ie`, the rest is discarded (R75, R151). -/
def State.writeCtrl (data : Word) (s : State) : State :=
  { s with ie := data.getLsbD 0 }

/-- Read a register: in reset every register reads 0 (R190), else `rdval` (R157). -/
def State.readReg (idx : BitVec 3) (s : State) : State :=
  { s with rdata := if s.inReset then 0 else s.rdval idx }

/-- A phase of fixed length `n` in which the block drives the line (R124, R125). -/
def driveStep (n : Nat) (nextPhase : BitVec 4) (s : State) : State :=
  if s.cnt.toNat + 1 = n then s.enter nextPhase 0 else s.count

/-- WAIT_STEP (R120): count while the sample is at the waited level, fail when the run would exceed TL, and leave on the sample
that ends the run. -/
def waitStep (level : Bool) (kind : ErrKind) (i : BitVec 6) (onChange : State → State) (smp : Bool) (s : State) : State :=
  if smp = level then
    if Config.timeoutLimit < s.cnt.toNat + 1 then s.failEntry kind i else s.count
  else onChange s

/-- ACK3's `on_change` (R128). -/
def State.firstBit (s : State) : State :=
  { s.enter Phase.bitLow 1 with bitIdx := 0 }

/-- SHIFT_IN on the state (R102). -/
def State.shiftBit (b : Bool) (s : State) : State :=
  { s with shreg := shiftInBit s.shreg b }

/-- BIT_HIGH's `on_change` (R130): the bit is classified by `cnt` and shifted in, and the next bit, or CHECKSUM, follows. -/
def State.bitDone (s : State) : State :=
  if s.bitIdx = 39 then (s.shiftBit (classifyBit s.cnt.toNat)).enter Phase.checksum 0
  else { (s.shiftBit (classifyBit s.cnt.toNat)).enter Phase.bitLow 1 with bitIdx := s.bitIdx + 1 }

/-- The checksum decides between SUCCESS_ENTRY and ChecksumError (R132). -/
def State.verify (s : State) : State :=
  if checksumGood s.shreg then s.successEntry else s.failEntry .checksumError 0

/-- The value of an internal combinational operation run by itself (assumption 6). -/
def State.putOut (v : Word) (s : State) : State :=
  { s with opOut := v }

/-- The reset event (R190): every field of R38's table takes its value, and the stages of the synchroniser, which the table
leaves unspecified, take free values. The level of `rst_n`, the release stages and what is pending are not the event's. -/
def State.resetFields (s : State) : State :=
  { s with
    phase := Phase.idle
    cnt := 0
    bitIdx := 0
    shreg := 0
    ie := false
    done := false
    ok := false
    cmderr := false
    errcode := 0
    errbit := 0
    presc := 0
    sync1 := Config.freeSync s.draws
    sync2 := Config.freeSync (s.draws + 1)
    rdata := 0
    opOut := 0
    draws := s.draws + 2 }

/-- What the outside presents in the coming clock cycle. Where nothing is listed the host is idle, `rst_n` keeps its level and
the line is a free draw (assumption 3). -/
def State.nextInput (s : State) : CycleIn :=
  match s.inputs with
  | [] => { rstN := s.rstN, line := Config.freeLine s.draws, host := none }
  | c :: _ => c

/-- The events of a cycle out of reset in R60's order: a read sees the state from before the tick, the tick comes next, and a
write is applied last. -/
def cycleEvents (tick : Option Bool) (host : Option (BitVec 36)) : List Event :=
  let ticks := match tick with
    | some smp => [Event.tick smp]
    | none => []
  match host with
  | none => ticks
  | some w => if htWrite w then ticks ++ [Event.host w] else Event.host w :: ticks

/-- The events of a cycle in reset: reset overrides the others (R182); a read is answered from the reset state and a write is
ignored (R190). -/
def resetEvents (host : Option (BitVec 36)) : List Event :=
  match host with
  | none => [.rst]
  | some w => if htWrite w then [.rst] else [.rst, .host w]

/-- The coming cycle holds a tick: `presc = CLK_PER_TICK - 1` (R33). -/
def State.tickDue (s : State) : Bool :=
  s.presc + 1 = Config.clkPerTick

/-- The coming cycle is in reset: `rst_n` is low in it, or its second rising edge since `rst_n` rose is still to come (R191). -/
def State.cycleInReset (s : State) : Bool :=
  !s.nextInput.rstN || !s.rstS2

/-- One clock cycle with no event left over from the last: the prescaler counts (R33), the synchroniser and the release stages
shift (R34, R191), and the cycle's events are put in order. The sample of a tick is the synchroniser's output in its cycle. -/
def State.clockCycle (s : State) : State :=
  { s with
    presc := if s.cycleInReset || s.tickDue then 0 else s.presc + 1
    sync1 := s.nextInput.line
    sync2 := s.sync1
    rstN := s.nextInput.rstN
    rstS1 := s.nextInput.rstN
    rstS2 := s.nextInput.rstN && s.rstS1
    draws := if s.inputs.isEmpty then s.draws + 1 else s.draws
    inputs := s.inputs.tail
    events :=
      if s.cycleInReset then resetEvents s.nextInput.host
      else cycleEvents (if s.tickDue then some s.sync2 else none) s.nextInput.host }

end Sys2Proof.Machine
end

