-- ==== Sys2Proof/Machine/Frame.lean ====
section
/-! DEFINITION. The four INTERNAL rows (40_frame_checksum.md): combinational operations with no event of their own, which the
tick and read meanings use through the shared functions. Run by themselves, CLASSIFY, CHECKSUM_OK and EXTRACT put their value in
the model's own `opOut` (assumption 6). -/

namespace Sys2Proof.Machine

/-- CLASSIFY (R100). -/
def execClassify (d : BitVec 15) (s : State) : Host.Outcome State Fault Refusal :=
  .next (s.putOut (boolWord (classifyBit d.toNat)))

/-- SHIFT_IN (R102); in reset `shreg` holds its reset value (R190). -/
def execShiftIn (b : Bool) (s : State) : Host.Outcome State Fault Refusal :=
  .next (outsideReset (State.shiftBit b) s)

/-- CHECKSUM_OK (R103). -/
def execChecksumOk (s : State) : Host.Outcome State Fault Refusal :=
  .next (s.putOut (boolWord (checksumGood s.shreg)))

/-- EXTRACT (R104). -/
def execExtract (s : State) : Host.Outcome State Fault Refusal :=
  .next (s.putOut s.reading)

end Sys2Proof.Machine
end

