-- ==== Sys2Proof/Machine/HostPort.lean ====
section
/-! DEFINITION. The HT events: the host's transactions on the register port (42_host_interface.md). -/

namespace Sys2Proof.Machine

/-- CMD_NOP changes nothing, not even `cmderr` (R152). -/
def execCmdNop (s : State) : Host.Outcome State Fault Refusal :=
  .next s

/-- CMD_START (R153). -/
def execCmdStart (s : State) : Host.Outcome State Fault Refusal :=
  .next (outsideReset (whenIdle (State.restart Phase.prep)) s)

/-- CMD_CLEAR (R154): an accepted CLEAR also clears `cmderr`. -/
def execCmdClear (s : State) : Host.Outcome State Fault Refusal :=
  .next (outsideReset (whenIdle State.clearResult) s)

/-- CMD_RSVD is rejected in every phase (R155). -/
def execCmdRsvd (_data : Word) (s : State) : Host.Outcome State Fault Refusal :=
  .next (outsideReset State.rejectCmd s)

/-- WR_CTRL (R151). -/
def execWrCtrl (data : Word) (s : State) : Host.Outcome State Fault Refusal :=
  .next (outsideReset (State.writeCtrl data) s)

/-- WR_IGNORED_2_3 has no effect (R158). -/
def execWrIgnored23 (_idx : BitVec 3) (_data : Word) (s : State) : Host.Outcome State Fault Refusal :=
  .next s

/-- WR_IGNORED_4_7 has no effect (R158). -/
def execWrIgnored47 (_idx : BitVec 3) (_data : Word) (s : State) : Host.Outcome State Fault Refusal :=
  .next s

/-- RD returns `rdval(idx)` on the read data of the port (R157). -/
def execRd (idx : BitVec 3) (s : State) : Host.Outcome State Fault Refusal :=
  .next (s.readReg idx)

end Sys2Proof.Machine
end

