-- ==== Sys2Proof/Machine/ResetEvent.lean ====
section
/-! DEFINITION. The RST event (70_reset_and_hazards.md). -/

namespace Sys2Proof.Machine

/-- RESET takes effect whatever the block is doing, and a running transaction is abandoned without an error (R190). -/
def execReset (s : State) : Host.Outcome State Fault Refusal :=
  .next s.resetFields

end Sys2Proof.Machine
end

