-- ==== Sys2Proof/Machine/Sequencer.lean ====
section
/-! DEFINITION. The PH events: the sequencer's ticks, one per phase (41_protocol_phases.md). Each takes the sample of its tick,
which only the five wait phases read (R123). -/

namespace Sys2Proof.Machine

/-- TICK_IDLE (R121). -/
def execTickIdle (_smp : Bool) (s : State) : Host.Outcome State Fault Refusal :=
  .next s

/-- TICK_PREP (R122). -/
def execTickPrep (_smp : Bool) (s : State) : Host.Outcome State Fault Refusal :=
  .next (outsideReset (State.enter Phase.startLow 0) s)

/-- TICK_START_LOW (R124). -/
def execTickStartLow (_smp : Bool) (s : State) : Host.Outcome State Fault Refusal :=
  .next (outsideReset (driveStep Config.startLowTicks Phase.startHigh) s)

/-- TICK_START_HIGH (R125): the last tick releases the line. -/
def execTickStartHigh (_smp : Bool) (s : State) : Host.Outcome State Fault Refusal :=
  .next (outsideReset (driveStep Config.startHighTicks Phase.ack1) s)

/-- TICK_ACK1 waits while the line is high (R126). -/
def execTickAck1 (smp : Bool) (s : State) : Host.Outcome State Fault Refusal :=
  .next (outsideReset (waitStep true .noResponse 0 (State.enter Phase.ack2 1) smp) s)

/-- TICK_ACK2 waits while the line is low (R127). -/
def execTickAck2 (smp : Bool) (s : State) : Host.Outcome State Fault Refusal :=
  .next (outsideReset (waitStep false .responseTimeout1 0 (State.enter Phase.ack3 1) smp) s)

/-- TICK_ACK3 waits while the line is high (R128). -/
def execTickAck3 (smp : Bool) (s : State) : Host.Outcome State Fault Refusal :=
  .next (outsideReset (waitStep true .responseTimeout2 0 State.firstBit smp) s)

/-- TICK_BIT_LOW waits while the line is low (R129). -/
def execTickBitLow (smp : Bool) (s : State) : Host.Outcome State Fault Refusal :=
  .next (outsideReset (waitStep false .bitTimeoutRising s.bitIdx (State.enter Phase.bitHigh 1) smp) s)

/-- TICK_BIT_HIGH waits while the line is high and measures how long (R130). -/
def execTickBitHigh (smp : Bool) (s : State) : Host.Outcome State Fault Refusal :=
  .next (outsideReset (waitStep true .bitTimeoutHigh s.bitIdx State.bitDone smp) s)

/-- TICK_CHECKSUM (R132). -/
def execTickChecksum (_smp : Bool) (s : State) : Host.Outcome State Fault Refusal :=
  .next (outsideReset State.verify s)

/-- TICK_SUCCESS (R134). -/
def execTickSuccess (_smp : Bool) (s : State) : Host.Outcome State Fault Refusal :=
  .next s

/-- TICK_FAILURE (R134). -/
def execTickFailure (_smp : Bool) (s : State) : Host.Outcome State Fault Refusal :=
  .next s

/-- TICK_UNREACHABLE: "A model that finds `phase` in 12..15 at a tick refuses the step" (R135). -/
def execTickUnreachable (p : BitVec 4) (_smp : Bool) (_s : State) : Host.Outcome State Fault Refusal :=
  .refused (.unreachablePhase p)

end Sys2Proof.Machine
end

