-- ==== Sys2Proof/Machine/Dispatch.lean ====
section
/-! DEFINITION. One arm per constructor of `Instr`. -/

namespace Sys2Proof.Machine

def exec (i : Instr) (s : State) : Host.Outcome State Fault Refusal :=
  match i with
  | .cmdNop => Sys2Proof.Machine.execCmdNop s
  | .cmdStart => Sys2Proof.Machine.execCmdStart s
  | .cmdClear => Sys2Proof.Machine.execCmdClear s
  | .cmdRsvd data => Sys2Proof.Machine.execCmdRsvd data s
  | .wrCtrl data => Sys2Proof.Machine.execWrCtrl data s
  | .wrIgnored23 idx data => Sys2Proof.Machine.execWrIgnored23 idx data s
  | .wrIgnored47 idx data => Sys2Proof.Machine.execWrIgnored47 idx data s
  | .rd idx => Sys2Proof.Machine.execRd idx s
  | .tickIdle smp => Sys2Proof.Machine.execTickIdle smp s
  | .tickPrep smp => Sys2Proof.Machine.execTickPrep smp s
  | .tickStartLow smp => Sys2Proof.Machine.execTickStartLow smp s
  | .tickStartHigh smp => Sys2Proof.Machine.execTickStartHigh smp s
  | .tickAck1 smp => Sys2Proof.Machine.execTickAck1 smp s
  | .tickAck2 smp => Sys2Proof.Machine.execTickAck2 smp s
  | .tickAck3 smp => Sys2Proof.Machine.execTickAck3 smp s
  | .tickBitLow smp => Sys2Proof.Machine.execTickBitLow smp s
  | .tickBitHigh smp => Sys2Proof.Machine.execTickBitHigh smp s
  | .tickChecksum smp => Sys2Proof.Machine.execTickChecksum smp s
  | .tickSuccess smp => Sys2Proof.Machine.execTickSuccess smp s
  | .tickFailure smp => Sys2Proof.Machine.execTickFailure smp s
  | .tickUnreachable p smp => Sys2Proof.Machine.execTickUnreachable p smp s
  | .reset => Sys2Proof.Machine.execReset s
  | .classify d => Sys2Proof.Machine.execClassify d s
  | .shiftIn b => Sys2Proof.Machine.execShiftIn b s
  | .checksumOk => Sys2Proof.Machine.execChecksumOk s
  | .extract => Sys2Proof.Machine.execExtract s

end Sys2Proof.Machine
end

