-- ==== Sys2Proof/Machine/Fetch.lean ====
section
/-! DEFINITION. From a pending event to its instruction: the event's word, decoded by the format of its agent (R70). Also where
`State.withFetchWord` places a word of the opcode table. -/

namespace Sys2Proof.Machine

/-- The word an event presents. A tick's word carries `phase` from before the tick (R72); a bus access becomes a host
transaction, or stops (R54); the reset event is the value 0 of `rst_n` (R73). -/
def eventWord (s : State) : Event → Host.Outcome EventWord Fault Refusal
  | .host w => .next (.ht w)
  | .bus write offset size data =>
    match busWord write offset size data with
    | .next w => .next (.ht w)
    | .fault f => .fault f
    | .refused r => .refused r
  | .tick smp => .next (.ph (phWord s.phase smp))
  | .rst => .next (.rst 0)

/-- Put a word of the opcode table where the next step takes its event. A PH word says which phase its tick is in, so the phase
is set with it. Bits that fit no format change nothing. Nor does an RST word of 1, which the spec leaves open: R73 gives the format's
value 0 only, and `decode` gives 1 no event, so none is placed (the model's choice, DESIGN CHOICE, assumption 8). -/
def placeWord (s : State) (nbits w : Nat) : State :=
  match eventWordOf (tableFormat nbits w) w with
  | .ok (.ht v) => s.withEvents (.host v :: s.events)
  | .ok (.ph v) => { s with phase := phPhase v, events := .tick (phSample v) :: s.events }
  | .ok (.rst v) => if v = 0 then s.withEvents (.rst :: s.events) else s
  | .error _ => s

end Sys2Proof.Machine
end

