-- ==== Sys2Proof/Machine/Step.lean ====
section
/-! DEFINITION. One step: the next pending event is decoded and executed; when none is pending, one clock cycle passes and its
events become pending. -/

namespace Sys2Proof.Machine

/-- The step. Bits that decode to no event leave the state as it is: an RST word of 1 is read as no event
(assumption 8), and no other word is undecodable. -/
def step (s : State) : Host.Outcome State Fault Refusal :=
  match s.events with
  | [] => .next s.clockCycle
  | e :: rest =>
    match eventWord s e with
    | .fault f => .fault f
    | .refused r => .refused r
    | .next w =>
      match decode w with
      | .ok i => exec i (s.withEvents rest)
      | .error _ => .next (s.withEvents rest)

/-- `s` with a word of the opcode table as its next event. -/
def State.withFetchWord (s : State) (nbits w : Nat) : State :=
  placeWord s nbits w

end Sys2Proof.Machine
end

