-- ==== Sys2Proof/Machine/HostView.lean ====
section
/-! DEFINITION. The host's side of the register port as far as the spec fixes it: the pseudo-instructions and their expansions
(R86), the result a host reads (R159, R206), and the waveform notation of test lines (R86). The host's program is no state of
the block (R39). -/

namespace Sys2Proof.Machine

/-- A line of a host program: an access, or a read repeated until it shows a value (R85, R86). -/
inductive HostOp where
  | rd (idx : BitVec 3)
  | wr (idx : BitVec 3) (data : Word)
  | poll (idx : BitVec 3) (mask val : Word)
deriving DecidableEq, Repr

/-- The pseudo-instructions of R86 that are not `POLL` itself. -/
inductive Pseudo where
  | nop
  | start
  | clear
  | irqOn
  | irqOff
  | waitDone
  | readSensor
deriving DecidableEq, Repr

/-- The expansions of R86's table. -/
def Pseudo.expand : Pseudo → List HostOp
  | .nop => [.wr 1 0]
  | .start => [.wr 1 1]
  | .clear => [.wr 1 2]
  | .irqOn => [.wr 0 1]
  | .irqOff => [.wr 0 0]
  | .waitDone => [.poll 2 2 2]
  | .readSensor => [.wr 1 1, .poll 2 2 2, .rd 3, .rd 4, .rd 5]

/-- The HT word a line of a host program presents; a poll presents its read each time round. -/
def HostOp.word : HostOp → BitVec 36
  | .rd idx => htWord false idx 0
  | .wr idx data => htWord true idx data
  | .poll idx _ _ => htWord false idx 0

/-- What a host program does after the access of its first line returned `rdata`: a poll stays until the masked value shows, and
every other line goes on to the next (R86). -/
def hostNext (rdata : Word) : List HostOp → List HostOp
  | [] => []
  | .poll idx mask val :: rest => if rdata &&& mask = val then rest else .poll idx mask val :: rest
  | _ :: rest => rest

/-- What `read(pin)` returns (R159). -/
inductive ReadResult where
  | reading (humidity temperature : Byte)
  | error (kind : ErrKind) (bit : BitVec 6)
deriving DecidableEq, Repr

/-- The result a host takes from STATUS and READING once `done = 1` (R159): the reading when STATUS.OK is 1, else the error of
STATUS.ERRCODE with STATUS.ERRBIT. -/
def hostResult (status reading : Word) : Option ReadResult :=
  if !status.getLsbD 1 then none
  else if status.getLsbD 2 then some (.reading (reading.extractLsb' 0 8) (reading.extractLsb' 8 8))
  else match errKindOf (status.extractLsb' 4 4) with
    | some kind => some (.error kind (status.extractLsb' 8 6))
    | none => none

/-- The outcome of a run at rest: STATUS, FRAME_LO, FRAME_HI and READING (R206). -/
def State.outcome (s : State) : Word × Word × Word × Word :=
  (s.rdval 2, s.rdval 3, s.rdval 4, s.rdval 5)

/-- `LINE` notation: runs of a level, `H20 L80` as `[(true, 20), (false, 80)]` (R86). -/
def lineRuns : List (Bool × Nat) → List Bool
  | [] => []
  | (level, n) :: rest => List.replicate n level ++ lineRuns rest

/-- The samples of the first `n` wire bits: bit `i` is low for `low i` ticks and then high for `high i` (R81, R136). -/
def bitRuns (low high : Nat → Nat) : Nat → List Bool
  | 0 => []
  | n + 1 => bitRuns low high n ++ lineRuns [(false, low n), (true, high n)]

/-- Wire bit `i` of a frame, in time order: bit `7 - (i mod 8)` of frame byte `i div 8` (R52, R81). -/
def wireBit (frame : BitVec 40) (i : Nat) : Bool :=
  frame.getLsbD (39 - i)

end Sys2Proof.Machine
end

