-- ==== Sys2Proof/Safety.lean ====
section
/-! DEFINITION. The terms claims are stated in: runs, the end of a transaction, the observables of R40, and the invariant of the
block. -/

namespace Sys2Proof.Machine

/-- `n` steps, stopping at the first fault or refusal. -/
def runSteps : Nat → State → Host.Outcome State Fault Refusal
  | 0, s => .next s
  | n + 1, s =>
    match step s with
    | .next t => runSteps n t
    | .fault f => .fault f
    | .refused r => .refused r

/-- The run of the sequencer over a list of samples, one tick each: the pending events are exactly these ticks. -/
def runTicks (samples : List Bool) (s : State) : Host.Outcome State Fault Refusal :=
  runSteps samples.length (s.withEvents (samples.map Event.tick))

/-- The run of a START and then a tick for each sample: tick 0 of R136 is the first. -/
def runStart (samples : List Bool) (s : State) : Host.Outcome State Fault Refusal :=
  runSteps (samples.length + 1) (s.withEvents (Event.host (htWord true 1 1) :: samples.map Event.tick))

/-- The first `n` samples of a line. -/
def samplesOf (line : Nat → Bool) (n : Nat) : List Bool :=
  (List.range n).map line

/-- A transaction has ended: SUCCESS or FAILURE (R206). -/
def State.ended (s : State) : Bool :=
  s.phase = Phase.success || s.phase = Phase.failure

/-- The block is at rest in a phase it can reach: IDLE, SUCCESS or FAILURE (R206). -/
def State.atRest (s : State) : Bool :=
  s.phase = Phase.idle || s.ended

/-- Two states the outside cannot tell apart: every register reads alike and every output is alike (R40). -/
def sameView (s t : State) : Prop :=
  (∀ idx, s.rdval idx = t.rdval idx) ∧ s.lineOe = t.lineOe ∧ s.lineO = t.lineO ∧ s.linePu = t.linePu
    ∧ s.irq = t.irq ∧ s.excl = t.excl

/-- `s` and `t` agree on everything a tick or a command does not name: the hidden timing state, the reset stages, the read data
and the model's own fields but the pending events. -/
def sameElsewhere (s t : State) : Prop :=
  s.presc = t.presc ∧ s.sync1 = t.sync1 ∧ s.sync2 = t.sync2 ∧ s.rstN = t.rstN ∧ s.rstS1 = t.rstS1 ∧ s.rstS2 = t.rstS2
    ∧ s.rdata = t.rdata ∧ s.opOut = t.opOut ∧ s.draws = t.draws ∧ s.inputs = t.inputs

/-- The block's registers hold R38's values. -/
def State.atResetValues (s : State) : Prop :=
  s.phase = 0 ∧ s.cnt = 0 ∧ s.bitIdx = 0 ∧ s.shreg = 0 ∧ s.ie = false ∧ s.done = false ∧ s.ok = false ∧ s.cmderr = false
    ∧ s.errcode = 0 ∧ s.errbit = 0 ∧ s.presc = 0

/-- `phase` holds a code of R21's table. -/
def State.phaseOk (s : State) : Bool :=
  decide (s.phase.toNat ≤ 11)

/-- `cnt` is in the range R24 gives its phase. -/
def State.cntOk (s : State) : Bool :=
  match s.phase.toNat with
  | 2 => decide (s.cnt.toNat < Config.startLowTicks)
  | 3 => decide (s.cnt.toNat < Config.startHighTicks)
  | 4 => decide (s.cnt.toNat ≤ Config.timeoutLimit)
  | 5 | 6 | 7 | 8 => decide (1 ≤ s.cnt.toNat) && decide (s.cnt.toNat ≤ Config.timeoutLimit)
  | _ => s.cnt = 0

/-- `bit_idx` is as R25 says: 0..39 in the bit phases, 39 in CHECKSUM, its last value after, 0 elsewhere. -/
def State.bitIdxOk (s : State) : Bool :=
  match s.phase.toNat with
  | 7 | 8 | 11 => decide (s.bitIdx.toNat ≤ 39)
  | 9 | 10 => s.bitIdx = 39
  | _ => s.bitIdx = 0

/-- `shreg` holds only the bits decoded so far (R26, R102): none before the first bit and none after a failure, at most
`bit_idx` of them in the bit phases, and after SUCCESS a frame whose checksum holds (R29). -/
def State.shregOk (s : State) : Bool :=
  match s.phase.toNat with
  | 7 | 8 => decide (s.shreg.toNat < 2 ^ s.bitIdx.toNat)
  | 9 => true
  | 10 => checksumGood s.shreg
  | _ => s.shreg = 0

/-- `done` holds exactly in SUCCESS and FAILURE (R28), `ok` exactly in SUCCESS (R29). -/
def State.flagsOk (s : State) : Bool :=
  s.done == s.ended && s.ok == decide (s.phase = Phase.success)

/-- `errcode` is 1 to 6 in FAILURE and 0 elsewhere; `errbit` is the bit of a bit timeout and 0 otherwise (R31, R32, R170). -/
def State.errOk (s : State) : Bool :=
  if s.phase = Phase.failure then
    decide (1 ≤ s.errcode.toNat) && decide (s.errcode.toNat ≤ 6)
      && decide (s.errbit = if s.errcode = 4 ∨ s.errcode = 5 then s.bitIdx else 0)
  else s.errcode = 0 && s.errbit = 0

/-- `presc` counts modulo `CLK_PER_TICK` (R33). -/
def State.prescOk (s : State) : Prop :=
  s.presc < Config.clkPerTick

/-- The invariant of the block (R21, R24 to R26, R28, R29, R31 to R33, R170). -/
def State.Inv (s : State) : Prop :=
  s.phaseOk ∧ s.cntOk ∧ s.bitIdxOk ∧ s.shregOk ∧ s.flagsOk ∧ s.errOk ∧ s.prescOk

/-- The release stages of `rst_n` fill one after the other, and only while `rst_n` is high (R191). -/
def State.stagesOk (s : State) : Prop :=
  (s.rstS2 = true → s.rstS1 = true) ∧ (s.rstS1 = true → s.rstN = true)

/-- While the block is in reset its registers hold their reset values, or the reset event is the very next one (R190, R191). -/
def State.ResetHeld (s : State) : Prop :=
  s.stagesOk ∧ (s.inReset = true → s.events.head? = some .rst ∨ s.atResetValues)

/-- The kinds of step that change the phase, by the phases before and after (R22 and the rules of 41_protocol_phases.md). -/
def phaseEdge (p q : BitVec 4) : Bool :=
  match p.toNat, q.toNat with
  | 0, 1 | 1, 2 | 2, 3 | 3, 4 | 4, 5 | 5, 6 | 6, 7 | 7, 8 | 8, 7 | 8, 9 | 9, 10 | 9, 11 => true
  | 4, 11 | 5, 11 | 6, 11 | 7, 11 | 8, 11 => true
  | 10, 1 | 11, 1 | 10, 0 | 11, 0 => true
  | _, _ => false

/-- How far a transaction has come: the place of its (phase, bit index) pair in the linear order of R22. -/
def State.progress (s : State) : Nat :=
  match s.phase.toNat with
  | 7 => 7 + 2 * s.bitIdx.toNat
  | 8 => 8 + 2 * s.bitIdx.toNat
  | 9 => 87
  | p => p

/-- A command that R156 rejects in `s`: reserved, or START or CLEAR while busy. -/
def rejected (s : State) : Instr → Bool
  | .cmdRsvd _ => true
  | .cmdStart => s.busy
  | .cmdClear => s.busy
  | _ => false

/-- A function of the next state, carried through an outcome. -/
def mapNext (f : State → State) : Host.Outcome State Fault Refusal → Host.Outcome State Fault Refusal
  | .next s => .next (f s)
  | .fault r => .fault r
  | .refused r => .refused r

/-- One step after another. -/
def andThen (o : Host.Outcome State Fault Refusal) (f : State → Host.Outcome State Fault Refusal) :
    Host.Outcome State Fault Refusal :=
  match o with
  | .next s => f s
  | .fault r => .fault r
  | .refused r => .refused r

/-- The instruction the next step of `s` executes, if it executes one. -/
def State.nextInstr (s : State) : Option Instr :=
  match s.events with
  | [] => none
  | e :: _ =>
    match eventWord s e with
    | .next w =>
      match decode w with
      | .ok i => some i
      | .error _ => none
    | .fault _ => none
    | .refused _ => none

end Sys2Proof.Machine
end

