-- ==== Sys2Proof/Certificates/Slice0/Obligations.lean ====
section
/-! DEFINITION. The statements for the provers. Each definition is one statement; its docstring names the rule of spec/ it
formalises. `s.inReset = false` says that `rst_n` is high and its release is complete (R190, R191). -/

open Sys2Proof Sys2Proof.Machine

/-- The state after `raise Fail(code, i)` (R180), written out. -/
def Sys2Proof.Claims.failed (s : State) (code : BitVec 4) (i : BitVec 6) : State :=
  { s with phase := 11, done := true, ok := false, errcode := code, errbit := i, cnt := 0, shreg := 0 }

/-- The five wait phases by their rules: phase, waited level, error code, recorded index (R126 to R130, R170). -/
abbrev Sys2Proof.Claims.waits (s : State) (level : Bool) (code : BitVec 4) (i : BitVec 6) : Prop :=
  (s.phase = 4 ∧ level = true ∧ code = 1 ∧ i = 0) ∨ (s.phase = 5 ∧ level = false ∧ code = 2 ∧ i = 0)
    ∨ (s.phase = 6 ∧ level = true ∧ code = 3 ∧ i = 0) ∨ (s.phase = 7 ∧ level = false ∧ code = 4 ∧ i = s.bitIdx)
    ∨ (s.phase = 8 ∧ level = true ∧ code = 5 ∧ i = s.bitIdx)

/-- The sum of frame bytes 0 to 3 modulo 256 is frame byte 4 (R103), in natural numbers. -/
abbrev Sys2Proof.Claims.sumHolds (shreg : BitVec 40) : Prop :=
  ((frameByte shreg 0).toNat + (frameByte shreg 1).toNat + (frameByte shreg 2).toNat + (frameByte shreg 3).toNat) % 256
    = (frameByte shreg 4).toNat

open Sys2Proof.Claims

/-! ## Encoding -/

/-- R71 to R73, R84: words written out from the encodings. -/
def Obligations.WrittenOutWordsDecode : Prop :=
  decode (.ht 0b100100000000000000000000000000000001) = .ok .cmdStart
    ∧ decode (.ht 0b100110000000000000000000000000000001) = .ok (.cmdRsvd 0x80000001)
    ∧ decode (.ht 0b010100000000000000000000000000000000) = .ok (.rd 5)
    ∧ decode (.ht 0b101011111111111111111111111111111111) = .ok (.wrIgnored23 2 0xFFFFFFFF)
    ∧ decode (.ph 0b01001) = .ok (.tickAck1 true)
    ∧ decode (.ph 0b10000) = .ok (.tickBitHigh false)
    ∧ decode (.ph 0b11010) = .ok (.tickUnreachable 13 false)
    ∧ decode (.rst 0b0) = .ok .reset

/-- Every HT word decodes to the one row its W, IDX and DATA name, in the table's priority, and every PH word decodes on P
alone. That the decoder is total is the spec's own inference (R84). -/
def Obligations.WordsDecodeByTheTable : Prop :=
  (∀ (write : Bool) (idx : BitVec 3) (data : Word),
      decode (.ht (htWord write idx data)) = .ok
        (if write = false then .rd idx
         else if idx = 1 then
           if data = 0 then .cmdNop else if data = 1 then .cmdStart else if data = 2 then .cmdClear else .cmdRsvd data
         else if idx = 0 then .wrCtrl data
         else if idx = 2 ∨ idx = 3 then .wrIgnored23 idx data
         else .wrIgnored47 idx data))
    ∧ (∀ w : BitVec 36, ∃ write idx data, w = htWord write idx data)
    ∧ ∀ (p : BitVec 4) (smp : Bool),
      decode (.ph (phWord p smp)) = .ok
        (if p = 0 then .tickIdle smp else if p = 1 then .tickPrep smp else if p = 2 then .tickStartLow smp
         else if p = 3 then .tickStartHigh smp else if p = 4 then .tickAck1 smp else if p = 5 then .tickAck2 smp
         else if p = 6 then .tickAck3 smp else if p = 7 then .tickBitLow smp else if p = 8 then .tickBitHigh smp
         else if p = 9 then .tickChecksum smp else if p = 10 then .tickSuccess smp else if p = 11 then .tickFailure smp
         else .tickUnreachable p smp)

/-- For every well-formed instruction but the four INTERNAL rows, which have no encoding, decoding its encoding gives it back.
-/
def Obligations.DecodeOfEncodeIsIdentity : Prop :=
  ∀ i : Instr, i.wellFormed = true →
    (∃ w, encode i = some w ∧ decode w = .ok i)
      ∨ encode i = none ∧ ((∃ d, i = .classify d) ∨ (∃ b, i = .shiftIn b) ∨ i = .checksumOk ∨ i = .extract)

/-- What the decoder gives is well formed, and encoding it gives the word back; of a read, the word with its DATA bits 0. -/
def Obligations.EncodeOfDecodeIsTheWord : Prop :=
  (∀ w : BitVec 36, (decodeHT w).wellFormed = true
      ∧ encode (decodeHT w) = some (.ht (if htWrite w then w else w &&& 0x700000000)))
    ∧ ∀ w : BitVec 5, (decodePH w).wellFormed = true ∧ encode (decodePH w) = some (.ph w)

/-! ## The step -/

/-- A step executes the instruction its pending event decodes to, in the state without that event: the host's word is decoded as
it stands, a tick's word is formed from `phase` and the sample (R72), and the reset event is RESET. That events wait in a list,
and that a step performs the first of them and removes it, is the model's choice (assumption 1). -/
def Obligations.StepRunsTheDecodedEvent : Prop :=
  (∀ (s : State) (e : Event) (rest : List Event) (w : EventWord) (i : Instr),
      s.events = e :: rest → eventWord s e = .next w → decode w = .ok i → step s = exec i { s with events := rest })
    ∧ (∀ (s : State) (w : BitVec 36), eventWord s (.host w) = .next (.ht w))
    ∧ (∀ (s : State) (smp : Bool), eventWord s (.tick smp) = .next (.ph (phWord s.phase smp)))
    ∧ ∀ (s : State) (rest : List Event), s.events = .rst :: rest → step s = exec .reset { s with events := rest }

/-! ## Reset -/

/-- R38: the registers and outputs of the state after reset. The clauses on the pending lists and on the release are the model's
(assumptions 1, 5). -/
def Obligations.ResetStateHoldsTheTable : Prop :=
  State.reset.atResetValues ∧ State.reset.lineOe = false ∧ State.reset.lineO = true ∧ State.reset.linePu = true
    ∧ State.reset.irq = false ∧ State.reset.excl = false ∧ (∀ idx, State.reset.rdval idx = 0)
    ∧ State.reset.inReset = false ∧ State.reset.inputs = [] ∧ State.reset.events = []

/-- R190, R38: the reset event in every state, with its outputs. Nothing is said of the synchroniser stages (R38). That the
event leaves the reset level, the release stages and the lists alone is the model's reading (assumption 13). -/
def Obligations.ResetEventEffect : Prop :=
  ∀ s : State, ∃ t, exec .reset s = .next t ∧ t.atResetValues ∧ t.rdata = 0
    ∧ t.lineOe = false ∧ t.lineO = true ∧ t.linePu = true ∧ t.irq = false ∧ t.excl = false ∧ (∀ idx, t.rdval idx = 0)
    ∧ t.rstN = s.rstN ∧ t.rstS1 = s.rstS1 ∧ t.rstS2 = s.rstS2 ∧ t.inputs = s.inputs ∧ t.events = s.events

/-- In reset, ticks have no effect, host writes are ignored, and host reads return 0: the model's reading of R190 (assumption
9). -/
def Obligations.InResetOnlyReadsAnswer : Prop :=
  ∀ s : State, s.inReset = true →
    (∀ w : BitVec 36, htWrite w = true → exec (decodeHT w) s = .next s)
      ∧ (∀ idx : BitVec 3, exec (.rd idx) s = .next { s with rdata := 0 })
      ∧ ∀ (p : BitVec 4) (smp : Bool), p.toNat ≤ 11 → exec (decodePH (phWord p smp)) s = .next s

/-- While the block is in reset its registers hold the reset values or the reset event comes next, and every step keeps it so;
where no event is pending they hold the reset values. The alternative, the reset by whole clock cycles and the two release
stages are the model's reading of R190 and R191 (assumptions 9 and 13). -/
def Obligations.StepKeepsResetHeld : Prop :=
  ∀ s t : State, s.ResetHeld → step s = .next t →
    t.ResetHeld ∧ (t.inReset = true → t.events = [] → t.atResetValues)

/-- The model's reading of R191 (assumption 9): with both release stages empty, two cycles of a high `rst_n` are still cycles in
reset, whatever the host writes in them, and after the second the block has left reset, at its reset values. -/
def Obligations.ReleaseTakesTwoEdges : Prop :=
  ∀ (s : State) (c₁ c₂ : CycleIn) (rest : List CycleIn),
    s.events = [] → s.rstS1 = false → s.rstS2 = false → s.inputs = c₁ :: c₂ :: rest → c₁.rstN = true → c₂.rstN = true →
    (∀ w, c₁.host = some w → htWrite w = true) → (∀ w, c₂.host = some w → htWrite w = true) →
    ∃ t u : State, runSteps 2 s = .next t ∧ t.inReset = true ∧ t.atResetValues
      ∧ runSteps 4 s = .next u ∧ u.inReset = false ∧ u.atResetValues ∧ u.events = [] ∧ u.inputs = rest

/-! ## The invariant -/

/-- The invariant holds after reset. -/
def Obligations.InvariantAtReset : Prop :=
  State.reset.Inv

/-- Every step keeps the invariant: the phase stays a code of R21's table, `cnt`, `bit_idx` and `presc` stay in the ranges of
R24, R25 and R33, `shreg` holds only decoded bits (R26), `done` and `ok` hold exactly in the terminal phases (R28, R29), and
`errcode` and `errbit` are those of R170. -/
def Obligations.StepKeepsInvariant : Prop :=
  ∀ s t : State, s.Inv → step s = .next t → t.Inv

/-! ## The sequencer -/

/-- R121, R134: ticks in IDLE, SUCCESS and FAILURE change nothing and find the line released; a block in one of those phases
stays in it until START, CLEAR or reset. -/
def Obligations.RestingTicksChangeNothing : Prop :=
  (∀ (s : State) (smp : Bool),
      exec (.tickIdle smp) s = .next s ∧ exec (.tickSuccess smp) s = .next s ∧ exec (.tickFailure smp) s = .next s
        ∧ decodePH (phWord 0 smp) = .tickIdle smp ∧ decodePH (phWord 10 smp) = .tickSuccess smp
        ∧ decodePH (phWord 11 smp) = .tickFailure smp)
    ∧ (∀ s : State, s.atRest = true → s.lineOe = false)
    ∧ ∀ s t : State, s.atRest = true → step s = .next t → t.phase ≠ s.phase →
      s.nextInstr = some .cmdStart ∨ s.nextInstr = some .cmdClear ∨ s.nextInstr = some .reset

/-- R122: the PREP tick enters START_LOW; before it the pad drives high with `excl = 0`, after it the pad drives low. -/
def Obligations.PrepTick : Prop :=
  ∀ (s : State) (smp : Bool), s.inReset = false →
    exec (.tickPrep smp) s = .next { s with phase := 2, cnt := 0 }
      ∧ (s.phase = 1 → s.lineOe = true ∧ s.lineO = true ∧ s.excl = false)
      ∧ ({ s with phase := 2, cnt := 0 } : State).lineOe = true ∧ ({ s with phase := 2, cnt := 0 } : State).lineO = false

/-- R124, R125: the ticks of the start pulse, and the pulse as the line sees it. After an accepted START, whatever is sampled,
the pad drives low from tick 0 for 18000 tick intervals, then high for 30, and releases at tick 18030. -/
def Obligations.StartPulse : Prop :=
  (∀ (s : State) (smp : Bool), s.inReset = false →
      exec (.tickStartLow smp) s
          = .next (if s.cnt.toNat + 1 = 18000 then { s with phase := 3, cnt := 0 } else { s with cnt := s.cnt + 1 })
        ∧ exec (.tickStartHigh smp) s
          = .next (if s.cnt.toNat + 1 = 30 then { s with phase := 4, cnt := 0 } else { s with cnt := s.cnt + 1 })
        ∧ decodePH (phWord 2 smp) = .tickStartLow smp ∧ decodePH (phWord 3 smp) = .tickStartHigh smp)
    ∧ ∀ (s : State) (samples : List Bool), s.inReset = false → s.busy = false → samples.length ≤ 18031 →
      ∃ t, runStart samples s = .next t
        ∧ (samples.length = 0 → t.phase = 1 ∧ t.lineOe = true ∧ t.lineO = true)
        ∧ (1 ≤ samples.length ∧ samples.length ≤ 18000 →
            t.phase = 2 ∧ t.cnt.toNat + 1 = samples.length ∧ t.lineOe = true ∧ t.lineO = false)
        ∧ (18001 ≤ samples.length ∧ samples.length ≤ 18030 →
            t.phase = 3 ∧ t.cnt.toNat + 18001 = samples.length ∧ t.lineOe = true ∧ t.lineO = true)
        ∧ (samples.length = 18031 → t.phase = 4 ∧ t.cnt = 0 ∧ t.lineOe = false)

/-- R126, R127, R128: the three ticks of the response handshake, on either sample. -/
def Obligations.HandshakeTicks : Prop :=
  ∀ (s : State) (smp : Bool), s.inReset = false →
    exec (.tickAck1 smp) s = .next
        (if smp = false then { s with phase := 5, cnt := 1 }
         else if s.cnt.toNat ≤ 99 then { s with cnt := s.cnt + 1 } else failed s 1 0)
      ∧ exec (.tickAck2 smp) s = .next
        (if smp = true then { s with phase := 6, cnt := 1 }
         else if s.cnt.toNat ≤ 99 then { s with cnt := s.cnt + 1 } else failed s 2 0)
      ∧ exec (.tickAck3 smp) s = .next
        (if smp = false then { s with phase := 7, cnt := 1, bitIdx := 0 }
         else if s.cnt.toNat ≤ 99 then { s with cnt := s.cnt + 1 } else failed s 3 0)
      ∧ decodePH (phWord 4 smp) = .tickAck1 smp ∧ decodePH (phWord 5 smp) = .tickAck2 smp
      ∧ decodePH (phWord 6 smp) = .tickAck3 smp

/-- R129, R130: the two ticks of a bit, on either sample: the low phase's length matters only for its timeout, and the high
phase ends by shifting in a 1 exactly when it lasted more than 30 ticks. -/
def Obligations.BitTicks : Prop :=
  ∀ (s : State) (smp : Bool), s.inReset = false →
    exec (.tickBitLow smp) s = .next
        (if smp = true then { s with phase := 8, cnt := 1 }
         else if s.cnt.toNat ≤ 99 then { s with cnt := s.cnt + 1 } else failed s 4 s.bitIdx)
      ∧ exec (.tickBitHigh smp) s = .next
        (if smp = true then if s.cnt.toNat ≤ 99 then { s with cnt := s.cnt + 1 } else failed s 5 s.bitIdx
         else if s.bitIdx.toNat = 39 then
           { s with phase := 9, cnt := 0, shreg := s.shreg <<< 1 ||| if 30 < s.cnt.toNat then 1 else 0 }
         else
           { s with phase := 7, cnt := 1, bitIdx := s.bitIdx + 1,
                    shreg := s.shreg <<< 1 ||| if 30 < s.cnt.toNat then 1 else 0 })
      ∧ decodePH (phWord 7 smp) = .tickBitLow smp ∧ decodePH (phWord 8 smp) = .tickBitHigh smp

/-- R171 to R175: a wait phase fails on the 101st sample of a run and not before. ACK1 is entered with a run of 0, the others
with a run of 1. A line that stays high after the release fails at tick 18131. -/
def Obligations.RunOf101TimesOut : Prop :=
  (∀ (s : State) (level : Bool) (code : BitVec 4) (i : BitVec 6) (n : Nat), s.inReset = false → waits s level code i →
      s.cnt.toNat ≤ 1 →
      (s.cnt.toNat + n ≤ 100 →
          ∃ t, runTicks (List.replicate n level) s = .next t ∧ t.phase = s.phase ∧ t.cnt.toNat = s.cnt.toNat + n)
        ∧ (s.cnt.toNat + n = 101 → runTicks (List.replicate n level) s = .next { failed s code i with events := [] }))
    ∧ ∀ (s : State) (drive : List Bool), s.inReset = false → s.busy = false → drive.length = 18031 →
      ∃ t u, runStart (drive ++ List.replicate 100 true) s = .next t ∧ t.busy = true
        ∧ runStart (drive ++ List.replicate 101 true) s = .next u
        ∧ u.phase = 11 ∧ u.errcode = 1 ∧ u.errbit = 0 ∧ u.done = true ∧ u.ok = false

/-- R132, R133, R176: the CHECKSUM tick ends the transaction in SUCCESS, with the frame kept and readable, when frame byte 4 is
the sum of bytes 0 to 3 modulo 256, and in ChecksumError otherwise. -/
def Obligations.ChecksumTick : Prop :=
  ∀ (s : State) (smp : Bool), s.inReset = false →
    (sumHolds s.shreg → ∃ t, exec (.tickChecksum smp) s = .next t
        ∧ t = { s with phase := 10, done := true, ok := true, errcode := 0, errbit := 0, cnt := 0 }
        ∧ t.busy = false ∧ t.excl = false ∧ t.irq = s.ie
        ∧ t.rdval 3 = frameByte s.shreg 3 ++ frameByte s.shreg 2 ++ frameByte s.shreg 1 ++ frameByte s.shreg 0
        ∧ (t.rdval 4).toNat = (frameByte s.shreg 4).toNat
        ∧ (t.rdval 5).toNat = (frameByte s.shreg 2).toNat * 256 + (frameByte s.shreg 0).toNat)
      ∧ (¬ sumHolds s.shreg → exec (.tickChecksum smp) s = .next (failed s 6 0))
      ∧ decodePH (phWord 9 smp) = .tickChecksum smp

/-- R180: a step that enters FAILURE is a tick in a phase that can fail; it records that phase's code of R170 and, for a bit
timeout, the bit, and changes nothing else. `busy` and `excl` are 0 after it, the pad was released already, and `irq` is `ie`.
-/
def Obligations.FailureEntryRecordsTheCause : Prop :=
  ∀ s t : State, step s = .next t → s.phase ≠ 11 → t.phase = 11 →
    ∃ (smp : Bool) (rest : List Event) (code : BitVec 4) (i : BitVec 6),
      s.events = .tick smp :: rest
        ∧ (waits s smp code i ∧ 100 ≤ s.cnt.toNat ∨ s.phase = 9 ∧ code = 6 ∧ i = 0 ∧ ¬ sumHolds s.shreg)
        ∧ t = { failed s code i with events := rest }
        ∧ t.busy = false ∧ t.excl = false ∧ s.lineOe = false ∧ t.lineOe = false ∧ t.irq = s.ie

/-- R135: a tick in phase 12 to 15 is refused. That no step writes such a phase is the spec's own inference there; that the
refusal comes in every state is the model's reading (assumption 11). -/
def Obligations.UnreachablePhasesAreRefused : Prop :=
  (∀ (s : State) (p : BitVec 4) (smp : Bool), exec (.tickUnreachable p smp) s = .refused (.unreachablePhase p))
    ∧ (∀ (s : State) (smp : Bool) (rest : List Event), s.events = .tick smp :: rest → 12 ≤ s.phase.toNat →
        step s = .refused (.unreachablePhase s.phase))
    ∧ ∀ s t : State, step s = .next t → s.phase.toNat ≤ 11 → t.phase.toNat ≤ 11

/-- R123: only ACK1, ACK2, ACK3, BIT_LOW and BIT_HIGH read the sample of a tick. -/
def Obligations.SampleReadOnlyInWaitPhases : Prop :=
  (∀ (s : State) (rest : List Event), ¬ (4 ≤ s.phase.toNat ∧ s.phase.toNat ≤ 8) →
      step { s with events := .tick true :: rest } = step { s with events := .tick false :: rest })
    ∧ ∀ p : BitVec 4, 4 ≤ p.toNat → p.toNat ≤ 8 → ∃ s : State, s.phase = p
      ∧ step { s with events := [.tick true] } ≠ step { s with events := [.tick false] }

/-- The spec's own inference R131: a bit whose line is high for exactly `n` ticks, 1 to 100, is classified with `D = n`, so it
is 1 exactly when `n` is more than 30. -/
def Obligations.HighTimeIsMeasuredExactly : Prop :=
  ∀ (s : State) (n : Nat), s.inReset = false → s.phase = 7 → 1 ≤ n → n ≤ 100 →
    runTicks (List.replicate n true ++ [false]) s = .next
      (if s.bitIdx = 39 then
         { s with phase := 9, cnt := 0, events := [], shreg := s.shreg.extractLsb' 0 39 ++ BitVec.ofBool (decide (30 < n)) }
       else
         { s with phase := 7, cnt := 1, bitIdx := s.bitIdx + 1, events := [],
                  shreg := s.shreg.extractLsb' 0 39 ++ BitVec.ofBool (decide (30 < n)) })

/-- The spec's own inference R138: the tick on which a wait phase times out ends the transaction, and no later sample changes
anything. -/
def Obligations.NothingAfterATimeoutMatters : Prop :=
  ∀ (s : State) (level : Bool) (code : BitVec 4) (i : BitVec 6) (later : List Bool), s.inReset = false →
    waits s level code i → s.cnt = 100 →
    runTicks (level :: later) s = .next { failed s code i with events := [] }

/-- R206: at rest, no tick changes the state, whatever the line does. -/
def Obligations.RestingBlockIgnoresTheLine : Prop :=
  ∀ (s : State) (samples : List Bool), s.atRest = true → runTicks samples s = .next { s with events := [] }

/-- R22: every change of phase is one of the linear sequence's, a timeout's, a command's or the reset's; while a transaction
runs its (phase, bit index) pair only moves forward, so none is entered twice; and a transaction starts only at rest, by START.
-/
def Obligations.PhasesAreLinear : Prop :=
  ∀ s t : State, s.Inv → step s = .next t →
    (s.phase ≠ t.phase → s.nextInstr = some .reset ∨ phaseEdge s.phase t.phase = true)
      ∧ (s.busy = true → t.busy = true → s.phase = t.phase ∧ s.bitIdx = t.bitIdx ∨ s.progress < t.progress)
      ∧ (s.phase ≠ 1 → t.phase = 1 → s.nextInstr = some .cmdStart ∧ s.atRest = true)

/-- R207: every accepted START is followed by the end of its transaction within 26333 ticks, whatever the line does. The bounds
are the spec's own inference R137: the end comes at a tick from 18114 to 26332, a failure not before 18131, a success before
26332. -/
def Obligations.EveryTransactionEnds : Prop :=
  ∀ (s : State) (line : Nat → Bool), s.inReset = false → s.busy = false →
    ∃ (n : Nat) (t : State), 18114 ≤ n ∧ n ≤ 26332
      ∧ (∀ k, k ≤ n → ∃ u, runStart (samplesOf line k) s = .next u ∧ u.busy = true)
      ∧ runStart (samplesOf line (n + 1)) s = .next t ∧ t.ended = true ∧ t.done = true
      ∧ (t.ok = false → 18131 ≤ n) ∧ (t.ok = true → n < 26332)

/-- The spec's own inference R107: a line that performs a well-formed handshake and sends each wire bit of a frame with
well-formed runs ends the transaction in SUCCESS with that frame when the checksum byte is the sum of the others, and in
ChecksumError otherwise. `drive` is what is sampled during the start pulse; `last` is the sample of the CHECKSUM tick. -/
def Obligations.FrameRoundTrip : Prop :=
  ∀ (s : State) (b₀ b₁ b₂ b₃ b₄ : Byte) (drive : List Bool) (a b c : Nat) (low high : Nat → Nat) (last : Bool),
    s.inReset = false → s.busy = false → drive.length = 18031 → a ≤ 100 → 1 ≤ b → b ≤ 100 → 1 ≤ c → c ≤ 100 →
    (∀ i, i < 40 → 1 ≤ low i ∧ low i ≤ 100 ∧ 1 ≤ high i ∧ high i ≤ 100
      ∧ (30 < high i ↔ wireBit (b₀ ++ b₁ ++ b₂ ++ b₃ ++ b₄) i = true)) →
    ∃ t, runStart (drive ++ lineRuns [(true, a), (false, b), (true, c)] ++ bitRuns low high 40 ++ [false, last]) s = .next t
      ∧ (b₄ = b₀ + b₁ + b₂ + b₃ →
          t.phase = 10 ∧ t.done = true ∧ t.ok = true ∧ t.errcode = 0 ∧ t.errbit = 0
            ∧ frameByte t.shreg 0 = b₀ ∧ frameByte t.shreg 1 = b₁ ∧ frameByte t.shreg 2 = b₂ ∧ frameByte t.shreg 3 = b₃
            ∧ frameByte t.shreg 4 = b₄
            ∧ t.rdval 3 = b₃ ++ b₂ ++ b₁ ++ b₀ ∧ t.rdval 4 = b₄.setWidth 32 ∧ t.rdval 5 = (b₂ ++ b₀).setWidth 32)
      ∧ (b₄ ≠ b₀ + b₁ + b₂ + b₃ →
          t.phase = 11 ∧ t.done = true ∧ t.ok = false ∧ t.errcode = 6 ∧ t.errbit = 0
            ∧ t.rdval 3 = 0 ∧ t.rdval 4 = 0 ∧ t.rdval 5 = 0)

/-! ## The host interface -/

/-- R157: a read returns `rdval(idx)` and changes nothing else; CMD, the unmapped indices, and without `ok` the data registers,
read 0. -/
def Obligations.ReadReturnsTheRegister : Prop :=
  ∀ (s : State) (idx : BitVec 3), s.inReset = false →
    exec (.rd idx) s = .next { s with rdata := s.rdval idx }
      ∧ (idx = 1 ∨ idx = 6 ∨ idx = 7 → s.rdval idx = 0)
      ∧ (s.ok = false → idx = 3 ∨ idx = 4 ∨ idx = 5 → s.rdval idx = 0)

/-- R150, R77: the read value of every register as its fields stand in the word, the highest first. -/
def Obligations.ReadValuesByField : Prop :=
  ∀ s : State,
    s.rdval 0 = 0#31 ++ BitVec.ofBool s.ie
      ∧ s.rdval 1 = 0
      ∧ s.rdval 2 = 0#12 ++ s.phase ++ 0#2 ++ s.errbit ++ s.errcode ++ BitVec.ofBool s.cmderr ++ BitVec.ofBool s.ok
          ++ BitVec.ofBool s.done ++ BitVec.ofBool s.busy
      ∧ s.rdval 3 = (if s.ok = true then
          frameByte s.shreg 3 ++ frameByte s.shreg 2 ++ frameByte s.shreg 1 ++ frameByte s.shreg 0 else 0)
      ∧ s.rdval 4 = (if s.ok = true then 0#24 ++ frameByte s.shreg 4 else 0)
      ∧ s.rdval 5 = (if s.ok = true then 0#16 ++ frameByte s.shreg 2 ++ frameByte s.shreg 0 else 0)
      ∧ s.rdval 6 = 0 ∧ s.rdval 7 = 0

/-- R78, R79, R80: the data registers by lane, their 0 without `ok`, their reset value, and writes to them ignored. -/
def Obligations.DataRegistersByLane : Prop :=
  ∀ s : State,
    (s.ok = true →
        (s.rdval 3).extractLsb' 0 8 = frameByte s.shreg 0 ∧ (s.rdval 3).extractLsb' 8 8 = frameByte s.shreg 1
          ∧ (s.rdval 3).extractLsb' 16 8 = frameByte s.shreg 2 ∧ (s.rdval 3).extractLsb' 24 8 = frameByte s.shreg 3
          ∧ (s.rdval 4).extractLsb' 0 8 = frameByte s.shreg 4 ∧ (s.rdval 4).extractLsb' 8 24 = 0
          ∧ (s.rdval 5).extractLsb' 0 8 = frameByte s.shreg 0 ∧ (s.rdval 5).extractLsb' 8 8 = frameByte s.shreg 2
          ∧ (s.rdval 5).extractLsb' 16 16 = 0)
      ∧ (s.ok = false → s.rdval 3 = 0 ∧ s.rdval 4 = 0 ∧ s.rdval 5 = 0)
      ∧ State.reset.rdval 3 = 0 ∧ State.reset.rdval 4 = 0 ∧ State.reset.rdval 5 = 0
      ∧ ∀ (idx : BitVec 3) (data : Word), idx = 3 ∨ idx = 4 ∨ idx = 5 →
        exec (decodeHT (htWord true idx data)) s = .next s

/-- R151: WR_CTRL stores bit 0 in `ie` and discards the rest, busy or not; `irq` follows at once and `done` is unchanged. -/
def Obligations.CtrlWriteSetsIe : Prop :=
  ∀ (s : State) (data : Word), s.inReset = false →
    ∃ t, exec (.wrCtrl data) s = .next t ∧ t = { s with ie := data.getLsbD 0 }
      ∧ t.rdval 0 = data &&& 1 ∧ t.irq = (data.getLsbD 0 && s.done) ∧ t.done = s.done
      ∧ decodeHT (htWord true 0 data) = .wrCtrl data

/-- R152, R158: NOP, and a write to any register from STATUS up, change nothing in any state. -/
def Obligations.NopAndIgnoredWritesChangeNothing : Prop :=
  ∀ s : State,
    exec .cmdNop s = .next s ∧ decodeHT (htWord true 1 0) = .cmdNop
      ∧ (∀ (idx : BitVec 3) (data : Word), exec (.wrIgnored23 idx data) s = .next s ∧ exec (.wrIgnored47 idx data) s = .next s)
      ∧ ∀ (idx : BitVec 3) (data : Word), 2 ≤ idx.toNat → exec (decodeHT (htWord true idx data)) s = .next s

/-- R153: START begins a transaction when the block is not busy, discarding the old result so that `irq` falls, and is rejected
when it is busy. -/
def Obligations.StartCommand : Prop :=
  ∀ s : State, s.inReset = false →
    (s.busy = false → ∃ t, exec .cmdStart s = .next t
        ∧ t = { s with phase := 1, cnt := 0, bitIdx := 0, shreg := 0, done := false, ok := false, errcode := 0, errbit := 0 }
        ∧ t.busy = true ∧ t.irq = false)
      ∧ (s.busy = true → exec .cmdStart s = .next { s with cmderr := true })
      ∧ decodeHT (htWord true 1 1) = .cmdStart

/-- R154: CLEAR returns a block that is not busy to IDLE and clears the result and `cmderr` but not `ie`, and is rejected when
the block is busy. -/
def Obligations.ClearCommand : Prop :=
  ∀ s : State, s.inReset = false →
    (s.busy = false → exec .cmdClear s = .next
        { s with phase := 0, cnt := 0, bitIdx := 0, shreg := 0, done := false, ok := false, cmderr := false, errcode := 0,
                 errbit := 0 })
      ∧ (s.busy = true → exec .cmdClear s = .next { s with cmderr := true })
      ∧ decodeHT (htWord true 1 2) = .cmdClear

/-- R155: every command word but 0, 1 and 2 sets `cmderr` and nothing else, in every phase. -/
def Obligations.ReservedCommandsSetCmderr : Prop :=
  ∀ (s : State) (data : Word), s.inReset = false → data ≠ 0 → data ≠ 1 → data ≠ 2 →
    decodeHT (htWord true 1 data) = .cmdRsvd data
      ∧ exec (.cmdRsvd data) s = .next { s with cmderr := true }

/-- R30, with R156: a rejected command sets `cmderr` and changes nothing else; nothing but a rejected command sets it, and
nothing but an accepted CLEAR or the reset clears it; NOP is never rejected; it is STATUS bit 3. -/
def Obligations.CmderrIsSticky : Prop :=
  (∀ (s : State) (i : Instr), s.inReset = false → s.nextInstr = some i → rejected s i = true →
      step s = .next { s with events := s.events.tail, cmderr := true })
    ∧ (∀ s t : State, step s = .next t →
        (s.cmderr = false → t.cmderr = true → ∃ i, s.nextInstr = some i ∧ rejected s i = true)
          ∧ (s.cmderr = true → t.cmderr = false →
              s.nextInstr = some .cmdClear ∧ s.busy = false ∨ s.nextInstr = some .reset))
    ∧ ∀ s : State, rejected s .cmdNop = false ∧ (s.rdval 2).getLsbD 3 = s.cmderr

/-- R27: `ie` changes only by a write to CTRL, to its bit 0, or by reset; no tick reads it; it is CTRL bit 0 and gates `irq`. -/
def Obligations.InterruptEnableIsTheHosts : Prop :=
  (∀ s t : State, step s = .next t → s.ie ≠ t.ie →
      (∃ data, s.nextInstr = some (.wrCtrl data) ∧ t.ie = data.getLsbD 0) ∨ s.nextInstr = some .reset ∧ t.ie = false)
    ∧ (∀ (s : State) (w : BitVec 5) (b : Bool),
        exec (decodePH w) { s with ie := b } = mapNext (fun t => { t with ie := b }) (exec (decodePH w) s))
    ∧ ∀ s : State, s.rdval 0 = (if s.ie = true then 1 else 0) ∧ (s.ie = false → s.irq = false)

/-- The spec's own inference R57: unless reset, a data register changes only on entry to SUCCESS, from 0 to the frame, and on an
accepted START or CLEAR, to 0; and only those two commands leave SUCCESS. -/
def Obligations.ResultIsStable : Prop :=
  ∀ s t : State, s.Inv → step s = .next t → s.nextInstr ≠ some .reset →
    (∀ idx : BitVec 3, idx = 3 ∨ idx = 4 ∨ idx = 5 → s.rdval idx ≠ t.rdval idx →
        s.phase = 9 ∧ t.phase = 10 ∧ s.rdval idx = 0 ∧ t.shreg = s.shreg ∧ t.ok = true
          ∨ (s.nextInstr = some .cmdStart ∨ s.nextInstr = some .cmdClear) ∧ s.busy = false ∧ t.rdval idx = 0)
      ∧ (s.phase = 10 → t.phase ≠ 10 → s.nextInstr = some .cmdStart ∨ s.nextInstr = some .cmdClear)

/-- R28, R29: `done` rises only on the tick that enters SUCCESS or FAILURE, `ok` only on the CHECKSUM tick of a frame whose
checksum holds, and both fall only by an accepted START or CLEAR, or reset; `ok` in a state of the invariant is exactly SUCCESS.
-/
def Obligations.DoneAndOkMarkTheEnd : Prop :=
  ∀ s t : State, s.Inv → step s = .next t →
    (s.done = false → t.done = true → s.busy = true ∧ t.ended = true ∧ ∃ smp rest, s.events = .tick smp :: rest)
      ∧ (s.ok = false → t.ok = true → s.phase = 9 ∧ t.phase = 10 ∧ sumHolds s.shreg)
      ∧ (s.done = true → t.done = false ∨ (s.ok = true ∧ t.ok = false) →
          (s.nextInstr = some .cmdStart ∨ s.nextInstr = some .cmdClear) ∧ s.busy = false ∨ s.nextInstr = some .reset)
      ∧ (s.ok = true ↔ s.phase = 10) ∧ (s.done = true ↔ s.phase = 10 ∨ s.phase = 11)

/-- R54: a bus access of a whole register is the host transaction at that register; every other shape is refused by name. -/
def Obligations.OnlyWholeRegisterAccesses : Prop :=
  ∀ (s : State) (write : Bool) (offset size : Nat) (data : Word) (rest : List Event),
    s.events = .bus write offset size data :: rest →
    (size = 4 → ∀ idx : BitVec 3, offset = 4 * idx.toNat →
        step s = exec (decodeHT (htWord write idx data)) { s with events := rest })
      ∧ (size ≠ 4 ∨ offset % 4 ≠ 0 → step s = .refused (.notWholeRegister offset size))

/-- R50 gives the address space 8 registers; that a whole word above them faults is the model's choice (assumption 7). -/
def Obligations.NoRegisterAboveTheLast : Prop :=
  ∀ (s : State) (write : Bool) (offset : Nat) (data : Word) (rest : List Event),
    s.events = .bus write offset 4 data :: rest → offset % 4 = 0 → 32 ≤ offset →
    step s = .fault (.noSuchRegister offset)

/-- R159: once `done = 1`, STATUS and READING give the host the reading of a success and the error of a failure; before, they
give no result. -/
def Obligations.HostReadsTheResult : Prop :=
  ∀ s : State, s.Inv →
    (s.done = false → hostResult (s.rdval 2) (s.rdval 5) = none)
      ∧ (s.done = true → s.ok = true →
          hostResult (s.rdval 2) (s.rdval 5) = some (.reading (frameByte s.shreg 0) (frameByte s.shreg 2)))
      ∧ (s.done = true → s.ok = false →
          ∃ kind, errCode kind = s.errcode ∧ hostResult (s.rdval 2) (s.rdval 5) = some (.error kind s.errbit))

/-! ## Outputs -/

/-- R36: the pad by phase code. -/
def Obligations.PadFollowsThePhase : Prop :=
  ∀ s : State,
    (s.phase = 1 ∨ s.phase = 3 → s.lineOe = true ∧ s.lineO = true)
      ∧ (s.phase = 2 → s.lineOe = true ∧ s.lineO = false)
      ∧ (s.phase ≠ 1 → s.phase ≠ 2 → s.phase ≠ 3 → s.lineOe = false ∧ s.lineO = true)
      ∧ s.linePu = true

/-- R178: `irq = ie & done`; it rises only on the tick that enters SUCCESS or FAILURE with `ie = 1` and when the host sets `ie`
while `done = 1`, and falls only by START or CLEAR, when the host clears `ie`, or at reset. -/
def Obligations.InterruptIsALevel : Prop :=
  (∀ s : State, s.irq = true ↔ s.ie = true ∧ s.done = true)
    ∧ ∀ s t : State, step s = .next t →
      (s.irq = false → t.irq = true →
          (s.ie = true ∧ s.ended = false ∧ t.ended = true ∧ ∃ smp rest, s.events = .tick smp :: rest)
            ∨ s.done = true ∧ ∃ data, s.nextInstr = some (.wrCtrl data) ∧ data.getLsbD 0 = true)
        ∧ (s.irq = true → t.irq = false →
          (s.nextInstr = some .cmdStart ∨ s.nextInstr = some .cmdClear) ∧ s.busy = false
            ∨ (∃ data, s.nextInstr = some (.wrCtrl data) ∧ data.getLsbD 0 = false) ∨ s.nextInstr = some .reset)

/-- R179: `excl` is 1 exactly in phases 2 to 9; it rises only on the PREP tick and falls only at the end of a transaction or at
reset, at the same step as the exit. That it is never left 1 after an end is the spec's own inference there. -/
def Obligations.ExclusiveWindow : Prop :=
  (∀ s : State, s.excl = true ↔
      s.phase = 2 ∨ s.phase = 3 ∨ s.phase = 4 ∨ s.phase = 5 ∨ s.phase = 6 ∨ s.phase = 7 ∨ s.phase = 8 ∨ s.phase = 9)
    ∧ ∀ s t : State, s.Inv → step s = .next t →
      (s.excl = false → t.excl = true → s.phase = 1 ∧ t.phase = 2)
        ∧ (s.excl = true → t.excl = false → t.ended = true ∨ s.nextInstr = some .reset ∧ t.phase = 0)
        ∧ (t.ended = true → t.excl = false)

/-- R40: what the outside sees does not depend on `cnt`, `bit_idx`, `presc` or the synchroniser, nor, while `ok = 0`, on
`shreg`. -/
def Obligations.HiddenStateIsInvisible : Prop :=
  ∀ (s : State) (cnt : BitVec 15) (bitIdx : BitVec 6) (shreg : BitVec 40) (presc : Nat) (sync1 sync2 : Bool),
    sameView s { s with cnt := cnt, bitIdx := bitIdx, presc := presc, sync1 := sync1, sync2 := sync2 }
      ∧ (s.ok = false →
          sameView s
            { s with cnt := cnt, bitIdx := bitIdx, shreg := shreg, presc := presc, sync1 := sync1, sync2 := sync2 })

/-! ## The frame operations -/

/-- R101: `fb(k)` is `shreg[39 - 8k : 32 - 8k]`, bit by bit, and the five bytes are all of `shreg`. -/
def Obligations.FrameBytesOfTheShiftRegister : Prop :=
  ∀ shreg : BitVec 40,
    (∀ (k : Fin 5) (j : Nat), j < 8 → (frameByte shreg k).getLsbD j = shreg.getLsbD (32 - 8 * k.val + j))
      ∧ frameByte shreg 0 ++ frameByte shreg 1 ++ frameByte shreg 2 ++ frameByte shreg 3 ++ frameByte shreg 4 = shreg

/-- R102: SHIFT_IN shifts one bit in at the bottom; after 40 of them from 0, wire bit `i` is bit `7 - (i mod 8)` of frame byte
`i div 8`, which is the spec's own inference there. -/
def Obligations.ShiftInOrdersTheFrame : Prop :=
  (∀ (s : State) (b : Bool), s.inReset = false →
      exec (.shiftIn b) s = .next { s with shreg := s.shreg <<< 1 ||| if b = true then 1 else 0 })
    ∧ ∀ (bits : Nat → Bool) (i : Nat) (k : Fin 5), i < 40 → k.val = i / 8 →
      (frameByte ((List.range 40).foldl (fun sh j => shiftInBit sh (bits j)) 0) k).getLsbD (7 - i % 8) = bits i

/-- R103: the checksum holds exactly when byte 4 is the sum of bytes 0 to 3 modulo 256. -/
def Obligations.ChecksumIsTheByteSum : Prop :=
  ∀ b₀ b₁ b₂ b₃ b₄ : Byte,
    checksumGood (b₀ ++ b₁ ++ b₂ ++ b₃ ++ b₄) = true ↔ (b₀.toNat + b₁.toNat + b₂.toNat + b₃.toNat) % 256 = b₄.toNat

/-- R100, R103, R104: the values of CLASSIFY, CHECKSUM_OK and EXTRACT. That an operation run by itself leaves its value in the
model's `opOut` is the model's choice (assumption 6). -/
def Obligations.InternalOperationsGiveTheirValue : Prop :=
  ∀ s : State,
    (∀ d : BitVec 15, exec (.classify d) s = .next { s with opOut := if 30 < d.toNat then 1 else 0 })
      ∧ (∃ t, exec .checksumOk s = .next t ∧ t = { s with opOut := t.opOut }
          ∧ (sumHolds s.shreg → t.opOut = 1) ∧ (¬ sumHolds s.shreg → t.opOut = 0))
      ∧ ∃ t, exec .extract s = .next t ∧ t = { s with opOut := t.opOut }
          ∧ (s.ok = true → t.opOut.toNat = (frameByte s.shreg 2).toNat * 256 + (frameByte s.shreg 0).toNat)
          ∧ (s.ok = false → t.opOut = 0)

/-! ## The clock -/

/-- R60: a tick and a host access in one cycle. A read returns the value from before the cycle, and the tick is applied; a write
is applied to the state the tick left. R60's last sentence is read as being about writes (assumption 10). -/
def Obligations.SameCycleOrder : Prop :=
  ∀ (s : State) (c : CycleIn) (rest : List CycleIn) (w : BitVec 36),
    s.events = [] → s.inputs = c :: rest → c.host = some w → c.rstN = true → s.rstS1 = true → s.rstS2 = true →
    s.presc + 1 = Config.clkPerTick →
    (htWrite w = false → runSteps 3 s = andThen (.next { s.clockCycle with events := [], rdata := s.rdval (htIdx w) })
        (exec (decodePH (phWord s.phase s.sync2))))
      ∧ (htWrite w = true → runSteps 3 s = andThen
        (exec (decodePH (phWord s.phase s.sync2)) { s.clockCycle with events := [] }) (exec (decodeHT w)))

/-- R33, with the model's own event list (assumption 1): out of reset, the cycle with `presc = CLK_PER_TICK - 1` holds the tick
and sets `presc` to 0, every other cycle adds 1 and holds none; reset sets it to 0, and no other instruction changes it. The
frame of a clock cycle, in reset or out of it: before its events are performed it has changed no register of the sequencer, no
register of the host, no result, and neither `rdata` nor `opOut`, fields the model adds (assumptions 6 and 14). -/
def Obligations.PrescalerMakesTheTick : Prop :=
  (∀ s : State, s.events = [] → s.cycleInReset = false →
      ∃ t, step s = .next t
        ∧ (s.presc + 1 = Config.clkPerTick → t.presc = 0 ∧ .tick s.sync2 ∈ t.events)
        ∧ (s.presc + 1 ≠ Config.clkPerTick → t.presc = s.presc + 1 ∧ ∀ smp, .tick smp ∉ t.events))
    ∧ (∀ s : State, ∃ t, exec .reset s = .next t ∧ t.presc = 0)
    ∧ (∀ (i : Instr) (s t : State), i ≠ .reset → exec i s = .next t → t.presc = s.presc)
    ∧ ∀ s : State, s.events = [] →
      ∃ t, step s = .next t
        ∧ t.phase = s.phase ∧ t.cnt = s.cnt ∧ t.bitIdx = s.bitIdx ∧ t.shreg = s.shreg ∧ t.ie = s.ie ∧ t.done = s.done
        ∧ t.ok = s.ok ∧ t.cmderr = s.cmderr ∧ t.errcode = s.errcode ∧ t.errbit = s.errbit ∧ t.rdata = s.rdata
        ∧ t.opOut = s.opOut

/-- R33: with `rst_n` high, from a prescaler value `p` the next tick comes in the cycle numbered `CLK_PER_TICK - p`, so 1 to
`CLK_PER_TICK` cycles later, whatever the host reads and writes in those cycles. `cycles` are the cycles before the tick's and
`last` is the tick's own; a cycle with a host access takes two steps, the cycle and its event (the model's choice, assumption
1). -/
def Obligations.TickWithinOnePeriod : Prop :=
  ∀ (s : State) (cycles rest : List CycleIn) (last : CycleIn), s.events = [] → s.inputs = cycles ++ last :: rest →
    s.stagesOk → s.rstS2 = true → (∀ c, c ∈ cycles → c.rstN = true) → last.rstN = true →
    s.presc + cycles.length + 1 = Config.clkPerTick →
    ∃ t u : State, runSteps (cycles.length + cycles.countP (·.host.isSome)) s = .next t ∧ t.events = []
      ∧ (∀ k, k ≤ cycles.length + cycles.countP (·.host.isSome) →
          ∃ v, runSteps k s = .next v ∧ ∀ smp, .tick smp ∉ v.events)
      ∧ ((∀ c, c ∈ cycles → c.host = none) → t.phase = s.phase)
      ∧ step t = .next u ∧ .tick t.sync2 ∈ u.events ∧ (last.host = none → u.events = [.tick t.sync2])
      ∧ u.inputs = rest ∧ u.presc = 0 ∧ u.phase = t.phase ∧ cycles.length + 1 ≤ Config.clkPerTick

/-- R34: the synchroniser delays the line by two cycles, and a tick's sample is its output in the tick's cycle. -/
def Obligations.SynchroniserDelaysTwoCycles : Prop :=
  ∀ (s : State) (smp : Bool),
    ({ s.clockCycle with events := [] } : State).clockCycle.sync2 = s.nextInput.line
      ∧ (.tick smp ∈ s.clockCycle.events → smp = s.sync2)

/-! ## Frames -/

/-- What each instruction leaves unchanged when it gives a next state: the reset level and stages and the pending lists by every
instruction; the hidden timing state by all but RESET; `rdata` by all but RD and RESET; `opOut` by all but the internal
operations and RESET; `ie` by all but WR_CTRL and RESET; `cmderr` by all but START, CLEAR, reserved commands and RESET; the
sequencer's registers and the result by every instruction that is no tick, no START or CLEAR, no SHIFT_IN and no RESET. That
RESET too leaves the reset level, the release stages and the lists alone is the model's reading (assumption 13); the lists,
`draws`, `opOut` and `rdata` are fields the model adds (assumptions 1, 3, 4, 6 and 14). -/
def Obligations.InstructionFrames : Prop :=
  ∀ (i : Instr) (s t : State), exec i s = .next t →
    (t.rstN = s.rstN ∧ t.rstS1 = s.rstS1 ∧ t.rstS2 = s.rstS2 ∧ t.inputs = s.inputs ∧ t.events = s.events)
      ∧ (i ≠ .reset → t.presc = s.presc ∧ t.sync1 = s.sync1 ∧ t.sync2 = s.sync2 ∧ t.draws = s.draws)
      ∧ (i ≠ .reset → (∀ idx, i ≠ .rd idx) → t.rdata = s.rdata)
      ∧ (i ≠ .reset → (∀ d, i ≠ .classify d) → i ≠ .checksumOk → i ≠ .extract → t.opOut = s.opOut)
      ∧ (i ≠ .reset → (∀ data, i ≠ .wrCtrl data) → t.ie = s.ie)
      ∧ (i ≠ .reset → i ≠ .cmdStart → i ≠ .cmdClear → (∀ data, i ≠ .cmdRsvd data) → t.cmderr = s.cmderr)
      ∧ (i = .cmdNop ∨ (∃ data, i = .cmdRsvd data) ∨ (∃ data, i = .wrCtrl data) ∨ (∃ idx data, i = .wrIgnored23 idx data)
          ∨ (∃ idx data, i = .wrIgnored47 idx data) ∨ (∃ idx, i = .rd idx) ∨ (∃ d, i = .classify d) ∨ i = .checksumOk
          ∨ i = .extract →
          t.phase = s.phase ∧ t.cnt = s.cnt ∧ t.bitIdx = s.bitIdx ∧ t.shreg = s.shreg ∧ t.done = s.done ∧ t.ok = s.ok
            ∧ t.errcode = s.errcode ∧ t.errbit = s.errbit)
end

