-- ==== Sys2Proof/Laws/Decode.lean ====
section
/-! SUPPORT. The fields of assembled event words, and the words of their fields. -/

namespace Sys2Proof

/-- The bits of an assembled HT word (R71). -/
theorem htWord_getLsbD (write : Bool) (idx : BitVec 3) (data : Word) (i : Nat) :
    (htWord write idx data).getLsbD i
      = if i < 32 then data.getLsbD i else if i < 35 then idx.getLsbD (i - 32) else (BitVec.ofBool write).getLsbD (i - 35) := by
  change BitVec.getLsbD (w := 1 + 3 + 32) ((BitVec.ofBool write ++ idx) ++ data) i = _
  rw [BitVec.getLsbD_append, BitVec.getLsbD_append]
  by_cases h₁ : i < 32
  · simp [h₁]
  · by_cases h₂ : i < 35
    · simp [h₁, h₂, show i - 32 < 3 by omega]
    · simp [h₁, h₂, show ¬ i - 32 < 3 by omega, show i - 32 - 3 = i - 35 by omega]

@[simp] theorem htWrite_htWord (write : Bool) (idx : BitVec 3) (data : Word) : htWrite (htWord write idx data) = write := by
  rw [htWrite, htWord_getLsbD]
  cases write <;> rfl

@[simp] theorem htIdx_htWord (write : Bool) (idx : BitVec 3) (data : Word) : htIdx (htWord write idx data) = idx := by
  apply BitVec.eq_of_getLsbD_eq
  intro i hi
  rw [htIdx, BitVec.getLsbD_extractLsb', htWord_getLsbD]
  simp [hi, show 32 + i < 35 by omega]

@[simp] theorem htData_htWord (write : Bool) (idx : BitVec 3) (data : Word) : htData (htWord write idx data) = data := by
  apply BitVec.eq_of_getLsbD_eq
  intro i hi
  rw [htData, BitVec.getLsbD_extractLsb', htWord_getLsbD]
  simp [hi]

/-- An HT word is its W, IDX and DATA (R71). -/
theorem htWord_of_fields (w : BitVec 36) : htWord (htWrite w) (htIdx w) (htData w) = w := by
  apply BitVec.eq_of_getLsbD_eq
  intro i hi
  rw [htWord_getLsbD, htData, htIdx, BitVec.getLsbD_extractLsb', BitVec.getLsbD_extractLsb']
  by_cases h₁ : i < 32
  · simp [h₁]
  · by_cases h₂ : i < 35
    · simp [h₁, h₂, show i - 32 < 3 by omega, show 32 + (i - 32) = i by omega]
    · obtain rfl : i = 35 := by omega
      rw [htWrite]
      cases w.getLsbD 35 <;> simp

/-- A PH word is its P and S, and each of them is read back from it (R72). -/
theorem phWord_of_fields : ∀ w : BitVec 5, phWord (phPhase w) (phSample w) = w := by
  decide

@[simp] theorem phPhase_phWord : ∀ (p : BitVec 4) (smp : Bool), phPhase (phWord p smp) = p := by
  decide

@[simp] theorem phSample_phWord : ∀ (p : BitVec 4) (smp : Bool), phSample (phWord p smp) = smp := by
  decide

end Sys2Proof
end

