-- ==== Sys2Proof/Laws/State.lean ====
section
/-! SUPPORT. One lemma per field per named update of the state, so that no proof unfolds a record update. -/

namespace Sys2Proof.Machine

/-! Other pending events. -/

@[simp] theorem State.withEvents_phase (es : List Event) (s : State) : (s.withEvents es).phase = s.phase := rfl
@[simp] theorem State.withEvents_cnt (es : List Event) (s : State) : (s.withEvents es).cnt = s.cnt := rfl
@[simp] theorem State.withEvents_bitIdx (es : List Event) (s : State) : (s.withEvents es).bitIdx = s.bitIdx := rfl
@[simp] theorem State.withEvents_shreg (es : List Event) (s : State) : (s.withEvents es).shreg = s.shreg := rfl
@[simp] theorem State.withEvents_ie (es : List Event) (s : State) : (s.withEvents es).ie = s.ie := rfl
@[simp] theorem State.withEvents_done (es : List Event) (s : State) : (s.withEvents es).done = s.done := rfl
@[simp] theorem State.withEvents_ok (es : List Event) (s : State) : (s.withEvents es).ok = s.ok := rfl
@[simp] theorem State.withEvents_cmderr (es : List Event) (s : State) : (s.withEvents es).cmderr = s.cmderr := rfl
@[simp] theorem State.withEvents_errcode (es : List Event) (s : State) : (s.withEvents es).errcode = s.errcode := rfl
@[simp] theorem State.withEvents_errbit (es : List Event) (s : State) : (s.withEvents es).errbit = s.errbit := rfl
@[simp] theorem State.withEvents_presc (es : List Event) (s : State) : (s.withEvents es).presc = s.presc := rfl
@[simp] theorem State.withEvents_sync1 (es : List Event) (s : State) : (s.withEvents es).sync1 = s.sync1 := rfl
@[simp] theorem State.withEvents_sync2 (es : List Event) (s : State) : (s.withEvents es).sync2 = s.sync2 := rfl
@[simp] theorem State.withEvents_rstN (es : List Event) (s : State) : (s.withEvents es).rstN = s.rstN := rfl
@[simp] theorem State.withEvents_rstS1 (es : List Event) (s : State) : (s.withEvents es).rstS1 = s.rstS1 := rfl
@[simp] theorem State.withEvents_rstS2 (es : List Event) (s : State) : (s.withEvents es).rstS2 = s.rstS2 := rfl
@[simp] theorem State.withEvents_rdata (es : List Event) (s : State) : (s.withEvents es).rdata = s.rdata := rfl
@[simp] theorem State.withEvents_opOut (es : List Event) (s : State) : (s.withEvents es).opOut = s.opOut := rfl
@[simp] theorem State.withEvents_draws (es : List Event) (s : State) : (s.withEvents es).draws = s.draws := rfl
@[simp] theorem State.withEvents_inputs (es : List Event) (s : State) : (s.withEvents es).inputs = s.inputs := rfl
@[simp] theorem State.withEvents_events (es : List Event) (s : State) : (s.withEvents es).events = es := rfl

@[simp] theorem State.withEvents_withEvents (es es' : List Event) (s : State) :
    (s.withEvents es).withEvents es' = s.withEvents es' := rfl

/-! `enter` writes `phase` and `cnt`. -/

@[simp] theorem State.enter_phase (p : BitVec 4) (c : BitVec 15) (s : State) : (s.enter p c).phase = p := rfl
@[simp] theorem State.enter_cnt (p : BitVec 4) (c : BitVec 15) (s : State) : (s.enter p c).cnt = c := rfl
@[simp] theorem State.enter_bitIdx (p : BitVec 4) (c : BitVec 15) (s : State) : (s.enter p c).bitIdx = s.bitIdx := rfl
@[simp] theorem State.enter_shreg (p : BitVec 4) (c : BitVec 15) (s : State) : (s.enter p c).shreg = s.shreg := rfl
@[simp] theorem State.enter_ie (p : BitVec 4) (c : BitVec 15) (s : State) : (s.enter p c).ie = s.ie := rfl
@[simp] theorem State.enter_done (p : BitVec 4) (c : BitVec 15) (s : State) : (s.enter p c).done = s.done := rfl
@[simp] theorem State.enter_ok (p : BitVec 4) (c : BitVec 15) (s : State) : (s.enter p c).ok = s.ok := rfl
@[simp] theorem State.enter_cmderr (p : BitVec 4) (c : BitVec 15) (s : State) : (s.enter p c).cmderr = s.cmderr := rfl
@[simp] theorem State.enter_errcode (p : BitVec 4) (c : BitVec 15) (s : State) : (s.enter p c).errcode = s.errcode := rfl
@[simp] theorem State.enter_errbit (p : BitVec 4) (c : BitVec 15) (s : State) : (s.enter p c).errbit = s.errbit := rfl
@[simp] theorem State.enter_presc (p : BitVec 4) (c : BitVec 15) (s : State) : (s.enter p c).presc = s.presc := rfl
@[simp] theorem State.enter_sync1 (p : BitVec 4) (c : BitVec 15) (s : State) : (s.enter p c).sync1 = s.sync1 := rfl
@[simp] theorem State.enter_sync2 (p : BitVec 4) (c : BitVec 15) (s : State) : (s.enter p c).sync2 = s.sync2 := rfl
@[simp] theorem State.enter_rstN (p : BitVec 4) (c : BitVec 15) (s : State) : (s.enter p c).rstN = s.rstN := rfl
@[simp] theorem State.enter_rstS1 (p : BitVec 4) (c : BitVec 15) (s : State) : (s.enter p c).rstS1 = s.rstS1 := rfl
@[simp] theorem State.enter_rstS2 (p : BitVec 4) (c : BitVec 15) (s : State) : (s.enter p c).rstS2 = s.rstS2 := rfl
@[simp] theorem State.enter_rdata (p : BitVec 4) (c : BitVec 15) (s : State) : (s.enter p c).rdata = s.rdata := rfl
@[simp] theorem State.enter_opOut (p : BitVec 4) (c : BitVec 15) (s : State) : (s.enter p c).opOut = s.opOut := rfl
@[simp] theorem State.enter_draws (p : BitVec 4) (c : BitVec 15) (s : State) : (s.enter p c).draws = s.draws := rfl
@[simp] theorem State.enter_inputs (p : BitVec 4) (c : BitVec 15) (s : State) : (s.enter p c).inputs = s.inputs := rfl
@[simp] theorem State.enter_events (p : BitVec 4) (c : BitVec 15) (s : State) : (s.enter p c).events = s.events := rfl

/-! `count` adds 1 to `cnt`. -/

@[simp] theorem State.count_phase (s : State) : s.count.phase = s.phase := rfl
@[simp] theorem State.count_cnt (s : State) : s.count.cnt = s.cnt + 1 := rfl
@[simp] theorem State.count_bitIdx (s : State) : s.count.bitIdx = s.bitIdx := rfl
@[simp] theorem State.count_shreg (s : State) : s.count.shreg = s.shreg := rfl
@[simp] theorem State.count_ie (s : State) : s.count.ie = s.ie := rfl
@[simp] theorem State.count_done (s : State) : s.count.done = s.done := rfl
@[simp] theorem State.count_ok (s : State) : s.count.ok = s.ok := rfl
@[simp] theorem State.count_cmderr (s : State) : s.count.cmderr = s.cmderr := rfl
@[simp] theorem State.count_errcode (s : State) : s.count.errcode = s.errcode := rfl
@[simp] theorem State.count_errbit (s : State) : s.count.errbit = s.errbit := rfl
@[simp] theorem State.count_presc (s : State) : s.count.presc = s.presc := rfl
@[simp] theorem State.count_sync1 (s : State) : s.count.sync1 = s.sync1 := rfl
@[simp] theorem State.count_sync2 (s : State) : s.count.sync2 = s.sync2 := rfl
@[simp] theorem State.count_rstN (s : State) : s.count.rstN = s.rstN := rfl
@[simp] theorem State.count_rstS1 (s : State) : s.count.rstS1 = s.rstS1 := rfl
@[simp] theorem State.count_rstS2 (s : State) : s.count.rstS2 = s.rstS2 := rfl
@[simp] theorem State.count_rdata (s : State) : s.count.rdata = s.rdata := rfl
@[simp] theorem State.count_opOut (s : State) : s.count.opOut = s.opOut := rfl
@[simp] theorem State.count_draws (s : State) : s.count.draws = s.draws := rfl
@[simp] theorem State.count_inputs (s : State) : s.count.inputs = s.inputs := rfl
@[simp] theorem State.count_events (s : State) : s.count.events = s.events := rfl

/-! Failure entry (R180). -/

@[simp] theorem State.failEntry_phase (k : ErrKind) (i : BitVec 6) (s : State) : (s.failEntry k i).phase = Phase.failure := rfl
@[simp] theorem State.failEntry_cnt (k : ErrKind) (i : BitVec 6) (s : State) : (s.failEntry k i).cnt = 0 := rfl
@[simp] theorem State.failEntry_bitIdx (k : ErrKind) (i : BitVec 6) (s : State) : (s.failEntry k i).bitIdx = s.bitIdx := rfl
@[simp] theorem State.failEntry_shreg (k : ErrKind) (i : BitVec 6) (s : State) : (s.failEntry k i).shreg = 0 := rfl
@[simp] theorem State.failEntry_ie (k : ErrKind) (i : BitVec 6) (s : State) : (s.failEntry k i).ie = s.ie := rfl
@[simp] theorem State.failEntry_done (k : ErrKind) (i : BitVec 6) (s : State) : (s.failEntry k i).done = true := rfl
@[simp] theorem State.failEntry_ok (k : ErrKind) (i : BitVec 6) (s : State) : (s.failEntry k i).ok = false := rfl
@[simp] theorem State.failEntry_cmderr (k : ErrKind) (i : BitVec 6) (s : State) : (s.failEntry k i).cmderr = s.cmderr := rfl
@[simp] theorem State.failEntry_errcode (k : ErrKind) (i : BitVec 6) (s : State) : (s.failEntry k i).errcode = errCode k := rfl
@[simp] theorem State.failEntry_errbit (k : ErrKind) (i : BitVec 6) (s : State) : (s.failEntry k i).errbit = i := rfl
@[simp] theorem State.failEntry_presc (k : ErrKind) (i : BitVec 6) (s : State) : (s.failEntry k i).presc = s.presc := rfl
@[simp] theorem State.failEntry_sync1 (k : ErrKind) (i : BitVec 6) (s : State) : (s.failEntry k i).sync1 = s.sync1 := rfl
@[simp] theorem State.failEntry_sync2 (k : ErrKind) (i : BitVec 6) (s : State) : (s.failEntry k i).sync2 = s.sync2 := rfl
@[simp] theorem State.failEntry_rstN (k : ErrKind) (i : BitVec 6) (s : State) : (s.failEntry k i).rstN = s.rstN := rfl
@[simp] theorem State.failEntry_rstS1 (k : ErrKind) (i : BitVec 6) (s : State) : (s.failEntry k i).rstS1 = s.rstS1 := rfl
@[simp] theorem State.failEntry_rstS2 (k : ErrKind) (i : BitVec 6) (s : State) : (s.failEntry k i).rstS2 = s.rstS2 := rfl
@[simp] theorem State.failEntry_rdata (k : ErrKind) (i : BitVec 6) (s : State) : (s.failEntry k i).rdata = s.rdata := rfl
@[simp] theorem State.failEntry_opOut (k : ErrKind) (i : BitVec 6) (s : State) : (s.failEntry k i).opOut = s.opOut := rfl
@[simp] theorem State.failEntry_draws (k : ErrKind) (i : BitVec 6) (s : State) : (s.failEntry k i).draws = s.draws := rfl
@[simp] theorem State.failEntry_inputs (k : ErrKind) (i : BitVec 6) (s : State) : (s.failEntry k i).inputs = s.inputs := rfl
@[simp] theorem State.failEntry_events (k : ErrKind) (i : BitVec 6) (s : State) : (s.failEntry k i).events = s.events := rfl

/-! SUCCESS_ENTRY (R133). -/

@[simp] theorem State.successEntry_phase (s : State) : s.successEntry.phase = Phase.success := rfl
@[simp] theorem State.successEntry_cnt (s : State) : s.successEntry.cnt = 0 := rfl
@[simp] theorem State.successEntry_bitIdx (s : State) : s.successEntry.bitIdx = s.bitIdx := rfl
@[simp] theorem State.successEntry_shreg (s : State) : s.successEntry.shreg = s.shreg := rfl
@[simp] theorem State.successEntry_ie (s : State) : s.successEntry.ie = s.ie := rfl
@[simp] theorem State.successEntry_done (s : State) : s.successEntry.done = true := rfl
@[simp] theorem State.successEntry_ok (s : State) : s.successEntry.ok = true := rfl
@[simp] theorem State.successEntry_cmderr (s : State) : s.successEntry.cmderr = s.cmderr := rfl
@[simp] theorem State.successEntry_errcode (s : State) : s.successEntry.errcode = 0 := rfl
@[simp] theorem State.successEntry_errbit (s : State) : s.successEntry.errbit = 0 := rfl
@[simp] theorem State.successEntry_presc (s : State) : s.successEntry.presc = s.presc := rfl
@[simp] theorem State.successEntry_sync1 (s : State) : s.successEntry.sync1 = s.sync1 := rfl
@[simp] theorem State.successEntry_sync2 (s : State) : s.successEntry.sync2 = s.sync2 := rfl
@[simp] theorem State.successEntry_rstN (s : State) : s.successEntry.rstN = s.rstN := rfl
@[simp] theorem State.successEntry_rstS1 (s : State) : s.successEntry.rstS1 = s.rstS1 := rfl
@[simp] theorem State.successEntry_rstS2 (s : State) : s.successEntry.rstS2 = s.rstS2 := rfl
@[simp] theorem State.successEntry_rdata (s : State) : s.successEntry.rdata = s.rdata := rfl
@[simp] theorem State.successEntry_opOut (s : State) : s.successEntry.opOut = s.opOut := rfl
@[simp] theorem State.successEntry_draws (s : State) : s.successEntry.draws = s.draws := rfl
@[simp] theorem State.successEntry_inputs (s : State) : s.successEntry.inputs = s.inputs := rfl
@[simp] theorem State.successEntry_events (s : State) : s.successEntry.events = s.events := rfl

/-! The common part of START and CLEAR (R153, R154). -/

@[simp] theorem State.restart_phase (p : BitVec 4) (s : State) : (s.restart p).phase = p := rfl
@[simp] theorem State.restart_cnt (p : BitVec 4) (s : State) : (s.restart p).cnt = 0 := rfl
@[simp] theorem State.restart_bitIdx (p : BitVec 4) (s : State) : (s.restart p).bitIdx = 0 := rfl
@[simp] theorem State.restart_shreg (p : BitVec 4) (s : State) : (s.restart p).shreg = 0 := rfl
@[simp] theorem State.restart_ie (p : BitVec 4) (s : State) : (s.restart p).ie = s.ie := rfl
@[simp] theorem State.restart_done (p : BitVec 4) (s : State) : (s.restart p).done = false := rfl
@[simp] theorem State.restart_ok (p : BitVec 4) (s : State) : (s.restart p).ok = false := rfl
@[simp] theorem State.restart_cmderr (p : BitVec 4) (s : State) : (s.restart p).cmderr = s.cmderr := rfl
@[simp] theorem State.restart_errcode (p : BitVec 4) (s : State) : (s.restart p).errcode = 0 := rfl
@[simp] theorem State.restart_errbit (p : BitVec 4) (s : State) : (s.restart p).errbit = 0 := rfl
@[simp] theorem State.restart_presc (p : BitVec 4) (s : State) : (s.restart p).presc = s.presc := rfl
@[simp] theorem State.restart_sync1 (p : BitVec 4) (s : State) : (s.restart p).sync1 = s.sync1 := rfl
@[simp] theorem State.restart_sync2 (p : BitVec 4) (s : State) : (s.restart p).sync2 = s.sync2 := rfl
@[simp] theorem State.restart_rstN (p : BitVec 4) (s : State) : (s.restart p).rstN = s.rstN := rfl
@[simp] theorem State.restart_rstS1 (p : BitVec 4) (s : State) : (s.restart p).rstS1 = s.rstS1 := rfl
@[simp] theorem State.restart_rstS2 (p : BitVec 4) (s : State) : (s.restart p).rstS2 = s.rstS2 := rfl
@[simp] theorem State.restart_rdata (p : BitVec 4) (s : State) : (s.restart p).rdata = s.rdata := rfl
@[simp] theorem State.restart_opOut (p : BitVec 4) (s : State) : (s.restart p).opOut = s.opOut := rfl
@[simp] theorem State.restart_draws (p : BitVec 4) (s : State) : (s.restart p).draws = s.draws := rfl
@[simp] theorem State.restart_inputs (p : BitVec 4) (s : State) : (s.restart p).inputs = s.inputs := rfl
@[simp] theorem State.restart_events (p : BitVec 4) (s : State) : (s.restart p).events = s.events := rfl

/-! An accepted CLEAR (R154). -/

@[simp] theorem State.clearResult_phase (s : State) : s.clearResult.phase = Phase.idle := rfl
@[simp] theorem State.clearResult_cnt (s : State) : s.clearResult.cnt = 0 := rfl
@[simp] theorem State.clearResult_bitIdx (s : State) : s.clearResult.bitIdx = 0 := rfl
@[simp] theorem State.clearResult_shreg (s : State) : s.clearResult.shreg = 0 := rfl
@[simp] theorem State.clearResult_ie (s : State) : s.clearResult.ie = s.ie := rfl
@[simp] theorem State.clearResult_done (s : State) : s.clearResult.done = false := rfl
@[simp] theorem State.clearResult_ok (s : State) : s.clearResult.ok = false := rfl
@[simp] theorem State.clearResult_cmderr (s : State) : s.clearResult.cmderr = false := rfl
@[simp] theorem State.clearResult_errcode (s : State) : s.clearResult.errcode = 0 := rfl
@[simp] theorem State.clearResult_errbit (s : State) : s.clearResult.errbit = 0 := rfl
@[simp] theorem State.clearResult_presc (s : State) : s.clearResult.presc = s.presc := rfl
@[simp] theorem State.clearResult_sync1 (s : State) : s.clearResult.sync1 = s.sync1 := rfl
@[simp] theorem State.clearResult_sync2 (s : State) : s.clearResult.sync2 = s.sync2 := rfl
@[simp] theorem State.clearResult_rstN (s : State) : s.clearResult.rstN = s.rstN := rfl
@[simp] theorem State.clearResult_rstS1 (s : State) : s.clearResult.rstS1 = s.rstS1 := rfl
@[simp] theorem State.clearResult_rstS2 (s : State) : s.clearResult.rstS2 = s.rstS2 := rfl
@[simp] theorem State.clearResult_rdata (s : State) : s.clearResult.rdata = s.rdata := rfl
@[simp] theorem State.clearResult_opOut (s : State) : s.clearResult.opOut = s.opOut := rfl
@[simp] theorem State.clearResult_draws (s : State) : s.clearResult.draws = s.draws := rfl
@[simp] theorem State.clearResult_inputs (s : State) : s.clearResult.inputs = s.inputs := rfl
@[simp] theorem State.clearResult_events (s : State) : s.clearResult.events = s.events := rfl

/-! A rejected command (R156). -/

@[simp] theorem State.rejectCmd_phase (s : State) : s.rejectCmd.phase = s.phase := rfl
@[simp] theorem State.rejectCmd_cnt (s : State) : s.rejectCmd.cnt = s.cnt := rfl
@[simp] theorem State.rejectCmd_bitIdx (s : State) : s.rejectCmd.bitIdx = s.bitIdx := rfl
@[simp] theorem State.rejectCmd_shreg (s : State) : s.rejectCmd.shreg = s.shreg := rfl
@[simp] theorem State.rejectCmd_ie (s : State) : s.rejectCmd.ie = s.ie := rfl
@[simp] theorem State.rejectCmd_done (s : State) : s.rejectCmd.done = s.done := rfl
@[simp] theorem State.rejectCmd_ok (s : State) : s.rejectCmd.ok = s.ok := rfl
@[simp] theorem State.rejectCmd_cmderr (s : State) : s.rejectCmd.cmderr = true := rfl
@[simp] theorem State.rejectCmd_errcode (s : State) : s.rejectCmd.errcode = s.errcode := rfl
@[simp] theorem State.rejectCmd_errbit (s : State) : s.rejectCmd.errbit = s.errbit := rfl
@[simp] theorem State.rejectCmd_presc (s : State) : s.rejectCmd.presc = s.presc := rfl
@[simp] theorem State.rejectCmd_sync1 (s : State) : s.rejectCmd.sync1 = s.sync1 := rfl
@[simp] theorem State.rejectCmd_sync2 (s : State) : s.rejectCmd.sync2 = s.sync2 := rfl
@[simp] theorem State.rejectCmd_rstN (s : State) : s.rejectCmd.rstN = s.rstN := rfl
@[simp] theorem State.rejectCmd_rstS1 (s : State) : s.rejectCmd.rstS1 = s.rstS1 := rfl
@[simp] theorem State.rejectCmd_rstS2 (s : State) : s.rejectCmd.rstS2 = s.rstS2 := rfl
@[simp] theorem State.rejectCmd_rdata (s : State) : s.rejectCmd.rdata = s.rdata := rfl
@[simp] theorem State.rejectCmd_opOut (s : State) : s.rejectCmd.opOut = s.opOut := rfl
@[simp] theorem State.rejectCmd_draws (s : State) : s.rejectCmd.draws = s.draws := rfl
@[simp] theorem State.rejectCmd_inputs (s : State) : s.rejectCmd.inputs = s.inputs := rfl
@[simp] theorem State.rejectCmd_events (s : State) : s.rejectCmd.events = s.events := rfl

/-! A write to CTRL (R151). -/

@[simp] theorem State.writeCtrl_phase (d : Word) (s : State) : (s.writeCtrl d).phase = s.phase := rfl
@[simp] theorem State.writeCtrl_cnt (d : Word) (s : State) : (s.writeCtrl d).cnt = s.cnt := rfl
@[simp] theorem State.writeCtrl_bitIdx (d : Word) (s : State) : (s.writeCtrl d).bitIdx = s.bitIdx := rfl
@[simp] theorem State.writeCtrl_shreg (d : Word) (s : State) : (s.writeCtrl d).shreg = s.shreg := rfl
@[simp] theorem State.writeCtrl_ie (d : Word) (s : State) : (s.writeCtrl d).ie = d.getLsbD 0 := rfl
@[simp] theorem State.writeCtrl_done (d : Word) (s : State) : (s.writeCtrl d).done = s.done := rfl
@[simp] theorem State.writeCtrl_ok (d : Word) (s : State) : (s.writeCtrl d).ok = s.ok := rfl
@[simp] theorem State.writeCtrl_cmderr (d : Word) (s : State) : (s.writeCtrl d).cmderr = s.cmderr := rfl
@[simp] theorem State.writeCtrl_errcode (d : Word) (s : State) : (s.writeCtrl d).errcode = s.errcode := rfl
@[simp] theorem State.writeCtrl_errbit (d : Word) (s : State) : (s.writeCtrl d).errbit = s.errbit := rfl
@[simp] theorem State.writeCtrl_presc (d : Word) (s : State) : (s.writeCtrl d).presc = s.presc := rfl
@[simp] theorem State.writeCtrl_sync1 (d : Word) (s : State) : (s.writeCtrl d).sync1 = s.sync1 := rfl
@[simp] theorem State.writeCtrl_sync2 (d : Word) (s : State) : (s.writeCtrl d).sync2 = s.sync2 := rfl
@[simp] theorem State.writeCtrl_rstN (d : Word) (s : State) : (s.writeCtrl d).rstN = s.rstN := rfl
@[simp] theorem State.writeCtrl_rstS1 (d : Word) (s : State) : (s.writeCtrl d).rstS1 = s.rstS1 := rfl
@[simp] theorem State.writeCtrl_rstS2 (d : Word) (s : State) : (s.writeCtrl d).rstS2 = s.rstS2 := rfl
@[simp] theorem State.writeCtrl_rdata (d : Word) (s : State) : (s.writeCtrl d).rdata = s.rdata := rfl
@[simp] theorem State.writeCtrl_opOut (d : Word) (s : State) : (s.writeCtrl d).opOut = s.opOut := rfl
@[simp] theorem State.writeCtrl_draws (d : Word) (s : State) : (s.writeCtrl d).draws = s.draws := rfl
@[simp] theorem State.writeCtrl_inputs (d : Word) (s : State) : (s.writeCtrl d).inputs = s.inputs := rfl
@[simp] theorem State.writeCtrl_events (d : Word) (s : State) : (s.writeCtrl d).events = s.events := rfl

/-! A read (R157). -/

@[simp] theorem State.readReg_phase (idx : BitVec 3) (s : State) : (s.readReg idx).phase = s.phase := rfl
@[simp] theorem State.readReg_cnt (idx : BitVec 3) (s : State) : (s.readReg idx).cnt = s.cnt := rfl
@[simp] theorem State.readReg_bitIdx (idx : BitVec 3) (s : State) : (s.readReg idx).bitIdx = s.bitIdx := rfl
@[simp] theorem State.readReg_shreg (idx : BitVec 3) (s : State) : (s.readReg idx).shreg = s.shreg := rfl
@[simp] theorem State.readReg_ie (idx : BitVec 3) (s : State) : (s.readReg idx).ie = s.ie := rfl
@[simp] theorem State.readReg_done (idx : BitVec 3) (s : State) : (s.readReg idx).done = s.done := rfl
@[simp] theorem State.readReg_ok (idx : BitVec 3) (s : State) : (s.readReg idx).ok = s.ok := rfl
@[simp] theorem State.readReg_cmderr (idx : BitVec 3) (s : State) : (s.readReg idx).cmderr = s.cmderr := rfl
@[simp] theorem State.readReg_errcode (idx : BitVec 3) (s : State) : (s.readReg idx).errcode = s.errcode := rfl
@[simp] theorem State.readReg_errbit (idx : BitVec 3) (s : State) : (s.readReg idx).errbit = s.errbit := rfl
@[simp] theorem State.readReg_presc (idx : BitVec 3) (s : State) : (s.readReg idx).presc = s.presc := rfl
@[simp] theorem State.readReg_sync1 (idx : BitVec 3) (s : State) : (s.readReg idx).sync1 = s.sync1 := rfl
@[simp] theorem State.readReg_sync2 (idx : BitVec 3) (s : State) : (s.readReg idx).sync2 = s.sync2 := rfl
@[simp] theorem State.readReg_rstN (idx : BitVec 3) (s : State) : (s.readReg idx).rstN = s.rstN := rfl
@[simp] theorem State.readReg_rstS1 (idx : BitVec 3) (s : State) : (s.readReg idx).rstS1 = s.rstS1 := rfl
@[simp] theorem State.readReg_rstS2 (idx : BitVec 3) (s : State) : (s.readReg idx).rstS2 = s.rstS2 := rfl
@[simp] theorem State.readReg_rdata (idx : BitVec 3) (s : State) : (s.readReg idx).rdata = if s.inReset then 0 else s.rdval idx := rfl
@[simp] theorem State.readReg_opOut (idx : BitVec 3) (s : State) : (s.readReg idx).opOut = s.opOut := rfl
@[simp] theorem State.readReg_draws (idx : BitVec 3) (s : State) : (s.readReg idx).draws = s.draws := rfl
@[simp] theorem State.readReg_inputs (idx : BitVec 3) (s : State) : (s.readReg idx).inputs = s.inputs := rfl
@[simp] theorem State.readReg_events (idx : BitVec 3) (s : State) : (s.readReg idx).events = s.events := rfl

/-! SHIFT_IN (R102). -/

@[simp] theorem State.shiftBit_phase (b : Bool) (s : State) : (s.shiftBit b).phase = s.phase := rfl
@[simp] theorem State.shiftBit_cnt (b : Bool) (s : State) : (s.shiftBit b).cnt = s.cnt := rfl
@[simp] theorem State.shiftBit_bitIdx (b : Bool) (s : State) : (s.shiftBit b).bitIdx = s.bitIdx := rfl
@[simp] theorem State.shiftBit_shreg (b : Bool) (s : State) : (s.shiftBit b).shreg = shiftInBit s.shreg b := rfl
@[simp] theorem State.shiftBit_ie (b : Bool) (s : State) : (s.shiftBit b).ie = s.ie := rfl
@[simp] theorem State.shiftBit_done (b : Bool) (s : State) : (s.shiftBit b).done = s.done := rfl
@[simp] theorem State.shiftBit_ok (b : Bool) (s : State) : (s.shiftBit b).ok = s.ok := rfl
@[simp] theorem State.shiftBit_cmderr (b : Bool) (s : State) : (s.shiftBit b).cmderr = s.cmderr := rfl
@[simp] theorem State.shiftBit_errcode (b : Bool) (s : State) : (s.shiftBit b).errcode = s.errcode := rfl
@[simp] theorem State.shiftBit_errbit (b : Bool) (s : State) : (s.shiftBit b).errbit = s.errbit := rfl
@[simp] theorem State.shiftBit_presc (b : Bool) (s : State) : (s.shiftBit b).presc = s.presc := rfl
@[simp] theorem State.shiftBit_sync1 (b : Bool) (s : State) : (s.shiftBit b).sync1 = s.sync1 := rfl
@[simp] theorem State.shiftBit_sync2 (b : Bool) (s : State) : (s.shiftBit b).sync2 = s.sync2 := rfl
@[simp] theorem State.shiftBit_rstN (b : Bool) (s : State) : (s.shiftBit b).rstN = s.rstN := rfl
@[simp] theorem State.shiftBit_rstS1 (b : Bool) (s : State) : (s.shiftBit b).rstS1 = s.rstS1 := rfl
@[simp] theorem State.shiftBit_rstS2 (b : Bool) (s : State) : (s.shiftBit b).rstS2 = s.rstS2 := rfl
@[simp] theorem State.shiftBit_rdata (b : Bool) (s : State) : (s.shiftBit b).rdata = s.rdata := rfl
@[simp] theorem State.shiftBit_opOut (b : Bool) (s : State) : (s.shiftBit b).opOut = s.opOut := rfl
@[simp] theorem State.shiftBit_draws (b : Bool) (s : State) : (s.shiftBit b).draws = s.draws := rfl
@[simp] theorem State.shiftBit_inputs (b : Bool) (s : State) : (s.shiftBit b).inputs = s.inputs := rfl
@[simp] theorem State.shiftBit_events (b : Bool) (s : State) : (s.shiftBit b).events = s.events := rfl

/-! The value of an internal operation. -/

@[simp] theorem State.putOut_phase (v : Word) (s : State) : (s.putOut v).phase = s.phase := rfl
@[simp] theorem State.putOut_cnt (v : Word) (s : State) : (s.putOut v).cnt = s.cnt := rfl
@[simp] theorem State.putOut_bitIdx (v : Word) (s : State) : (s.putOut v).bitIdx = s.bitIdx := rfl
@[simp] theorem State.putOut_shreg (v : Word) (s : State) : (s.putOut v).shreg = s.shreg := rfl
@[simp] theorem State.putOut_ie (v : Word) (s : State) : (s.putOut v).ie = s.ie := rfl
@[simp] theorem State.putOut_done (v : Word) (s : State) : (s.putOut v).done = s.done := rfl
@[simp] theorem State.putOut_ok (v : Word) (s : State) : (s.putOut v).ok = s.ok := rfl
@[simp] theorem State.putOut_cmderr (v : Word) (s : State) : (s.putOut v).cmderr = s.cmderr := rfl
@[simp] theorem State.putOut_errcode (v : Word) (s : State) : (s.putOut v).errcode = s.errcode := rfl
@[simp] theorem State.putOut_errbit (v : Word) (s : State) : (s.putOut v).errbit = s.errbit := rfl
@[simp] theorem State.putOut_presc (v : Word) (s : State) : (s.putOut v).presc = s.presc := rfl
@[simp] theorem State.putOut_sync1 (v : Word) (s : State) : (s.putOut v).sync1 = s.sync1 := rfl
@[simp] theorem State.putOut_sync2 (v : Word) (s : State) : (s.putOut v).sync2 = s.sync2 := rfl
@[simp] theorem State.putOut_rstN (v : Word) (s : State) : (s.putOut v).rstN = s.rstN := rfl
@[simp] theorem State.putOut_rstS1 (v : Word) (s : State) : (s.putOut v).rstS1 = s.rstS1 := rfl
@[simp] theorem State.putOut_rstS2 (v : Word) (s : State) : (s.putOut v).rstS2 = s.rstS2 := rfl
@[simp] theorem State.putOut_rdata (v : Word) (s : State) : (s.putOut v).rdata = s.rdata := rfl
@[simp] theorem State.putOut_opOut (v : Word) (s : State) : (s.putOut v).opOut = v := rfl
@[simp] theorem State.putOut_draws (v : Word) (s : State) : (s.putOut v).draws = s.draws := rfl
@[simp] theorem State.putOut_inputs (v : Word) (s : State) : (s.putOut v).inputs = s.inputs := rfl
@[simp] theorem State.putOut_events (v : Word) (s : State) : (s.putOut v).events = s.events := rfl

/-! ACK3's `on_change` (R128). -/

@[simp] theorem State.firstBit_phase (s : State) : s.firstBit.phase = Phase.bitLow := rfl
@[simp] theorem State.firstBit_cnt (s : State) : s.firstBit.cnt = 1 := rfl
@[simp] theorem State.firstBit_bitIdx (s : State) : s.firstBit.bitIdx = 0 := rfl
@[simp] theorem State.firstBit_shreg (s : State) : s.firstBit.shreg = s.shreg := rfl
@[simp] theorem State.firstBit_ie (s : State) : s.firstBit.ie = s.ie := rfl
@[simp] theorem State.firstBit_done (s : State) : s.firstBit.done = s.done := rfl
@[simp] theorem State.firstBit_ok (s : State) : s.firstBit.ok = s.ok := rfl
@[simp] theorem State.firstBit_cmderr (s : State) : s.firstBit.cmderr = s.cmderr := rfl
@[simp] theorem State.firstBit_errcode (s : State) : s.firstBit.errcode = s.errcode := rfl
@[simp] theorem State.firstBit_errbit (s : State) : s.firstBit.errbit = s.errbit := rfl
@[simp] theorem State.firstBit_presc (s : State) : s.firstBit.presc = s.presc := rfl
@[simp] theorem State.firstBit_sync1 (s : State) : s.firstBit.sync1 = s.sync1 := rfl
@[simp] theorem State.firstBit_sync2 (s : State) : s.firstBit.sync2 = s.sync2 := rfl
@[simp] theorem State.firstBit_rstN (s : State) : s.firstBit.rstN = s.rstN := rfl
@[simp] theorem State.firstBit_rstS1 (s : State) : s.firstBit.rstS1 = s.rstS1 := rfl
@[simp] theorem State.firstBit_rstS2 (s : State) : s.firstBit.rstS2 = s.rstS2 := rfl
@[simp] theorem State.firstBit_rdata (s : State) : s.firstBit.rdata = s.rdata := rfl
@[simp] theorem State.firstBit_opOut (s : State) : s.firstBit.opOut = s.opOut := rfl
@[simp] theorem State.firstBit_draws (s : State) : s.firstBit.draws = s.draws := rfl
@[simp] theorem State.firstBit_inputs (s : State) : s.firstBit.inputs = s.inputs := rfl
@[simp] theorem State.firstBit_events (s : State) : s.firstBit.events = s.events := rfl

/-! The reset event (R190). -/

@[simp] theorem State.resetFields_phase (s : State) : s.resetFields.phase = Phase.idle := rfl
@[simp] theorem State.resetFields_cnt (s : State) : s.resetFields.cnt = 0 := rfl
@[simp] theorem State.resetFields_bitIdx (s : State) : s.resetFields.bitIdx = 0 := rfl
@[simp] theorem State.resetFields_shreg (s : State) : s.resetFields.shreg = 0 := rfl
@[simp] theorem State.resetFields_ie (s : State) : s.resetFields.ie = false := rfl
@[simp] theorem State.resetFields_done (s : State) : s.resetFields.done = false := rfl
@[simp] theorem State.resetFields_ok (s : State) : s.resetFields.ok = false := rfl
@[simp] theorem State.resetFields_cmderr (s : State) : s.resetFields.cmderr = false := rfl
@[simp] theorem State.resetFields_errcode (s : State) : s.resetFields.errcode = 0 := rfl
@[simp] theorem State.resetFields_errbit (s : State) : s.resetFields.errbit = 0 := rfl
@[simp] theorem State.resetFields_presc (s : State) : s.resetFields.presc = 0 := rfl
@[simp] theorem State.resetFields_sync1 (s : State) : s.resetFields.sync1 = Config.freeSync s.draws := rfl
@[simp] theorem State.resetFields_sync2 (s : State) : s.resetFields.sync2 = Config.freeSync (s.draws + 1) := rfl
@[simp] theorem State.resetFields_rstN (s : State) : s.resetFields.rstN = s.rstN := rfl
@[simp] theorem State.resetFields_rstS1 (s : State) : s.resetFields.rstS1 = s.rstS1 := rfl
@[simp] theorem State.resetFields_rstS2 (s : State) : s.resetFields.rstS2 = s.rstS2 := rfl
@[simp] theorem State.resetFields_rdata (s : State) : s.resetFields.rdata = 0 := rfl
@[simp] theorem State.resetFields_opOut (s : State) : s.resetFields.opOut = 0 := rfl
@[simp] theorem State.resetFields_draws (s : State) : s.resetFields.draws = s.draws + 2 := rfl
@[simp] theorem State.resetFields_inputs (s : State) : s.resetFields.inputs = s.inputs := rfl
@[simp] theorem State.resetFields_events (s : State) : s.resetFields.events = s.events := rfl

/-! One clock cycle (R33, R34, R60, R191). -/

@[simp] theorem State.clockCycle_phase (s : State) : s.clockCycle.phase = s.phase := rfl
@[simp] theorem State.clockCycle_cnt (s : State) : s.clockCycle.cnt = s.cnt := rfl
@[simp] theorem State.clockCycle_bitIdx (s : State) : s.clockCycle.bitIdx = s.bitIdx := rfl
@[simp] theorem State.clockCycle_shreg (s : State) : s.clockCycle.shreg = s.shreg := rfl
@[simp] theorem State.clockCycle_ie (s : State) : s.clockCycle.ie = s.ie := rfl
@[simp] theorem State.clockCycle_done (s : State) : s.clockCycle.done = s.done := rfl
@[simp] theorem State.clockCycle_ok (s : State) : s.clockCycle.ok = s.ok := rfl
@[simp] theorem State.clockCycle_cmderr (s : State) : s.clockCycle.cmderr = s.cmderr := rfl
@[simp] theorem State.clockCycle_errcode (s : State) : s.clockCycle.errcode = s.errcode := rfl
@[simp] theorem State.clockCycle_errbit (s : State) : s.clockCycle.errbit = s.errbit := rfl
@[simp] theorem State.clockCycle_presc (s : State) : s.clockCycle.presc = if s.cycleInReset || s.tickDue then 0 else s.presc + 1 := rfl
@[simp] theorem State.clockCycle_sync1 (s : State) : s.clockCycle.sync1 = s.nextInput.line := rfl
@[simp] theorem State.clockCycle_sync2 (s : State) : s.clockCycle.sync2 = s.sync1 := rfl
@[simp] theorem State.clockCycle_rstN (s : State) : s.clockCycle.rstN = s.nextInput.rstN := rfl
@[simp] theorem State.clockCycle_rstS1 (s : State) : s.clockCycle.rstS1 = s.nextInput.rstN := rfl
@[simp] theorem State.clockCycle_rstS2 (s : State) : s.clockCycle.rstS2 = (s.nextInput.rstN && s.rstS1) := rfl
@[simp] theorem State.clockCycle_rdata (s : State) : s.clockCycle.rdata = s.rdata := rfl
@[simp] theorem State.clockCycle_opOut (s : State) : s.clockCycle.opOut = s.opOut := rfl
@[simp] theorem State.clockCycle_draws (s : State) : s.clockCycle.draws = if s.inputs.isEmpty then s.draws + 1 else s.draws := rfl
@[simp] theorem State.clockCycle_inputs (s : State) : s.clockCycle.inputs = s.inputs.tail := rfl
@[simp] theorem State.clockCycle_events (s : State) : s.clockCycle.events = if s.cycleInReset then resetEvents s.nextInput.host
      else cycleEvents (if s.tickDue then some s.sync2 else none) s.nextInput.host := rfl

end Sys2Proof.Machine
end

