-- ==== Sys2Proof/Laws/Ops.lean ====
section
/-! SUPPORT. For each shared operation, what it can do: the lemmas proofs cite instead of unfolding it. -/

namespace Sys2Proof.Machine

/-! Reset gating and the busy test. -/

theorem inReset_congr {s t : State} (h₁ : t.rstN = s.rstN) (h₂ : t.rstS2 = s.rstS2) : t.inReset = s.inReset := by
  simp [State.inReset, h₁, h₂]

theorem busy_congr {s t : State} (h : t.phase = s.phase) : t.busy = s.busy := by
  simp [State.busy, h]

@[simp] theorem inReset_withEvents (s : State) (es : List Event) : (s.withEvents es).inReset = s.inReset :=
  rfl

@[simp] theorem busy_withEvents (s : State) (es : List Event) : (s.withEvents es).busy = s.busy :=
  rfl

@[simp] theorem rdval_withEvents (s : State) (es : List Event) (idx : BitVec 3) :
    (s.withEvents es).rdval idx = s.rdval idx :=
  rfl

theorem outsideReset_out (f : State → State) {s : State} (h : s.inReset = false) : outsideReset f s = f s := by
  simp [outsideReset, h]

theorem outsideReset_in (f : State → State) {s : State} (h : s.inReset = true) : outsideReset f s = s := by
  simp [outsideReset, h]

theorem whenIdle_busy (f : State → State) {s : State} (h : s.busy = true) : whenIdle f s = s.rejectCmd := by
  simp [whenIdle, h]

theorem whenIdle_idle (f : State → State) {s : State} (h : s.busy = false) : whenIdle f s = f s := by
  simp [whenIdle, h]

/-- The busy phases are 1 to 9. -/
theorem busy_iff (s : State) : s.busy = true ↔ 1 ≤ s.phase.toNat ∧ s.phase.toNat ≤ 9 := by
  simp [State.busy]

/-- A state that a gated operation leaves is either the same, in reset, or the operation's result. -/
theorem outsideReset_cases (f : State → State) (s : State) :
    (s.inReset = true ∧ outsideReset f s = s) ∨ (s.inReset = false ∧ outsideReset f s = f s) := by
  cases h : s.inReset
  · exact .inr ⟨rfl, outsideReset_out f h⟩
  · exact .inl ⟨rfl, outsideReset_in f h⟩

/-! The wait and drive steps. -/

theorem waitStep_leaves (kind : ErrKind) (i : BitVec 6) (onChange : State → State) {level smp : Bool} (h : smp ≠ level)
    (s : State) : waitStep level kind i onChange smp s = onChange s := by
  simp [waitStep, h]

theorem waitStep_counts (level : Bool) (kind : ErrKind) (i : BitVec 6) (onChange : State → State) {s : State}
    (h : s.cnt.toNat ≤ 99) : waitStep level kind i onChange level s = s.count := by
  have : ¬ Config.timeoutLimit < s.cnt.toNat + 1 := by simp [Config.timeoutLimit]; omega
  simp [waitStep, this]

theorem waitStep_fails (level : Bool) (kind : ErrKind) (i : BitVec 6) (onChange : State → State) {s : State}
    (h : 100 ≤ s.cnt.toNat) : waitStep level kind i onChange level s = s.failEntry kind i := by
  have : Config.timeoutLimit < s.cnt.toNat + 1 := by simp [Config.timeoutLimit]; omega
  simp [waitStep, this]

/-- Everything WAIT_STEP can do (R120). -/
theorem waitStep_cases (level : Bool) (kind : ErrKind) (i : BitVec 6) (onChange : State → State) (smp : Bool) (s : State) :
    (smp ≠ level ∧ waitStep level kind i onChange smp s = onChange s)
      ∨ (smp = level ∧ s.cnt.toNat ≤ 99 ∧ waitStep level kind i onChange smp s = s.count)
      ∨ (smp = level ∧ 100 ≤ s.cnt.toNat ∧ waitStep level kind i onChange smp s = s.failEntry kind i) := by
  by_cases h : smp = level
  · subst h
    by_cases hc : s.cnt.toNat ≤ 99
    · exact .inr (.inl ⟨rfl, hc, waitStep_counts smp kind i onChange hc⟩)
    · exact .inr (.inr ⟨rfl, by omega, waitStep_fails smp kind i onChange (by omega)⟩)
  · exact .inl ⟨h, waitStep_leaves kind i onChange h s⟩

/-- Everything a drive step can do (R124, R125). -/
theorem driveStep_cases (n : Nat) (p : BitVec 4) (s : State) :
    (s.cnt.toNat + 1 = n ∧ driveStep n p s = s.enter p 0) ∨ (s.cnt.toNat + 1 ≠ n ∧ driveStep n p s = s.count) := by
  by_cases h : s.cnt.toNat + 1 = n <;> simp [driveStep, h]

/-- `cnt` counts without wrapping below its 15 bits (R24). -/
theorem count_toNat {s : State} (h : s.cnt.toNat < 32767) : s.count.cnt.toNat = s.cnt.toNat + 1 := by
  simp [BitVec.toNat_add]; omega

/-! The end of a bit and of a frame. -/

theorem bitDone_last {s : State} (h : s.bitIdx = 39) :
    s.bitDone = (s.shiftBit (classifyBit s.cnt.toNat)).enter Phase.checksum 0 := by
  rw [State.bitDone, if_pos h]

theorem bitDone_next {s : State} (h : s.bitIdx ≠ 39) :
    s.bitDone = { (s.shiftBit (classifyBit s.cnt.toNat)).enter Phase.bitLow 1 with bitIdx := s.bitIdx + 1 } := by
  rw [State.bitDone, if_neg h]

theorem verify_good {s : State} (h : checksumGood s.shreg = true) : s.verify = s.successEntry := by
  simp [State.verify, h]

theorem verify_bad {s : State} (h : checksumGood s.shreg = false) : s.verify = s.failEntry .checksumError 0 := by
  simp [State.verify, h]

/-! Bus accesses and the events of a cycle. -/

/-- Everything a bus access can become (R54). -/
theorem busWord_cases (write : Bool) (offset size : Nat) (data : Word) :
    ((size ≠ 4 ∨ offset % 4 ≠ 0) ∧ busWord write offset size data = .refused (.notWholeRegister offset size))
      ∨ (size = 4 ∧ offset % 4 = 0 ∧ 0x1C < offset ∧ busWord write offset size data = .fault (.noSuchRegister offset))
      ∨ (size = 4 ∧ offset % 4 = 0 ∧ offset ≤ 0x1C
          ∧ busWord write offset size data = .next (htWord write (BitVec.ofNat 3 (offset / 4)) data)) := by
  by_cases h : size ≠ 4 ∨ offset % 4 ≠ 0
  · exact .inl ⟨h, by simp [busWord, h]⟩
  · by_cases ho : 0x1C < offset
    · exact .inr (.inl ⟨by omega, by omega, ho, by rw [busWord, if_neg h, if_pos ho]⟩)
    · exact .inr (.inr ⟨by omega, by omega, by omega, by rw [busWord, if_neg h, if_neg ho]⟩)

theorem cycleEvents_read (tick : Option Bool) {w : BitVec 36} (h : htWrite w = false) :
    cycleEvents tick (some w) = .host w :: cycleEvents tick none := by
  cases tick <;> simp [cycleEvents, h]

theorem cycleEvents_write (tick : Option Bool) {w : BitVec 36} (h : htWrite w = true) :
    cycleEvents tick (some w) = cycleEvents tick none ++ [.host w] := by
  cases tick <;> simp [cycleEvents, h]

theorem resetEvents_head (host : Option (BitVec 36)) : (resetEvents host).head? = some .rst := by
  cases host with
  | none => rfl
  | some w => cases h : htWrite w <;> simp [resetEvents, h]

end Sys2Proof.Machine
end

