-- ==== Sys2Proof/Laws/Step.lean ====
section
/-! SUPPORT. What one step can do, said once. -/

namespace Sys2Proof.Machine

/-- A step that answers a next state is a clock cycle, or the execution of the instruction of the pending event. -/
theorem step_next_cases {s t : State} (h : step s = .next t) :
    (s.events = [] ∧ t = s.clockCycle)
      ∨ ∃ e rest w i, s.events = e :: rest ∧ eventWord s e = .next w ∧ decode w = .ok i
          ∧ exec i (s.withEvents rest) = .next t := by
  cases he : s.events with
  | nil => simp only [step, he, Host.Outcome.next.injEq] at h; exact .inl ⟨rfl, h.symm⟩
  | cons e rest =>
    right
    simp only [step, he] at h
    cases hw : eventWord s e with
    | fault f => simp [hw] at h
    | refused r => simp [hw] at h
    | next w =>
      simp only [hw] at h
      cases hd : decode w with
      | ok i => rw [hd] at h; exact ⟨e, rest, w, i, rfl, hw, hd, h⟩
      | error r =>
        exfalso
        cases e with
        | host v => simp only [eventWord, Host.Outcome.next.injEq] at hw; subst hw; simp [decode] at hd
        | tick smp => simp only [eventWord, Host.Outcome.next.injEq] at hw; subst hw; simp [decode] at hd
        | rst => simp only [eventWord, Host.Outcome.next.injEq] at hw; subst hw; simp [decode] at hd
        | bus write offset size data =>
          simp only [eventWord] at hw
          split at hw <;> simp only [Host.Outcome.next.injEq, reduceCtorEq] at hw
          subst hw
          simp [decode] at hd

/-- With no event pending a step is a clock cycle. -/
theorem step_of_no_event {s : State} (h : s.events = []) : step s = .next s.clockCycle := by
  simp [step, h]

/-- Every host transaction answers a next state, and none touches the prescaler (R33, R55). -/
theorem exec_decodeHT_next (s : State) (w : BitVec 36) : ∃ t, exec (decodeHT w) s = .next t ∧ t.presc = s.presc := by
  have gate : ∀ f : State → State, (f s).presc = s.presc → (outsideReset f s).presc = s.presc := by
    intro f hf
    rcases outsideReset_cases f s with ⟨-, h⟩ | ⟨-, h⟩ <;> rw [h]
    exact hf
  have idle : ∀ f : State → State, (f s).presc = s.presc → (whenIdle f s).presc = s.presc := by
    intro f hf
    unfold whenIdle
    split
    · rfl
    · exact hf
  unfold decodeHT
  repeat' split
  all_goals refine ⟨_, rfl, ?_⟩
  · rfl
  · exact gate _ (idle _ rfl)
  · exact gate _ (idle _ rfl)
  · exact gate _ rfl
  · exact gate _ rfl
  all_goals rfl

/-- No instruction touches the pending lists or the reset input and its stages. -/
theorem exec_keeps_pending (i : Instr) {s t : State} (h : exec i s = .next t) :
    t.events = s.events ∧ t.inputs = s.inputs ∧ t.rstN = s.rstN ∧ t.rstS1 = s.rstS1 ∧ t.rstS2 = s.rstS2 := by
  have gate : ∀ f : State → State,
      ((f s).events = s.events ∧ (f s).inputs = s.inputs ∧ (f s).rstN = s.rstN ∧ (f s).rstS1 = s.rstS1
        ∧ (f s).rstS2 = s.rstS2) → outsideReset f s = t →
      t.events = s.events ∧ t.inputs = s.inputs ∧ t.rstN = s.rstN ∧ t.rstS1 = s.rstS1 ∧ t.rstS2 = s.rstS2 := by
    intro f hf ht
    rcases outsideReset_cases f s with ⟨-, h'⟩ | ⟨-, h'⟩ <;> rw [← ht, h']
    · simp
    · exact hf
  have wait : ∀ (level : Bool) (kind : ErrKind) (n : BitVec 6) (f : State → State) (smp : Bool),
      ((f s).events = s.events ∧ (f s).inputs = s.inputs ∧ (f s).rstN = s.rstN ∧ (f s).rstS1 = s.rstS1
        ∧ (f s).rstS2 = s.rstS2) → outsideReset (waitStep level kind n f smp) s = t →
      t.events = s.events ∧ t.inputs = s.inputs ∧ t.rstN = s.rstN ∧ t.rstS1 = s.rstS1 ∧ t.rstS2 = s.rstS2 := by
    intro level kind n f smp hf ht
    refine gate _ ?_ ht
    rcases waitStep_cases level kind n f smp s with ⟨-, h'⟩ | ⟨-, -, h'⟩ | ⟨-, -, h'⟩ <;> rw [h']
    · exact hf
    · simp
    · simp
  cases i <;>
    simp only [exec, execCmdNop, execCmdStart, execCmdClear, execCmdRsvd, execWrCtrl, execWrIgnored23, execWrIgnored47, execRd,
      execTickIdle, execTickPrep, execTickStartLow, execTickStartHigh, execTickAck1, execTickAck2, execTickAck3, execTickBitLow,
      execTickBitHigh, execTickChecksum, execTickSuccess, execTickFailure, execTickUnreachable, execReset, execClassify,
      execShiftIn, execChecksumOk, execExtract, Host.Outcome.next.injEq, reduceCtorEq] at h
  case cmdStart => refine gate _ ?_ h; unfold whenIdle; split <;> simp
  case cmdClear => refine gate _ ?_ h; unfold whenIdle; split <;> simp
  case tickStartLow =>
    refine gate _ ?_ h
    rcases driveStep_cases Config.startLowTicks Phase.startHigh s with ⟨-, h'⟩ | ⟨-, h'⟩ <;> rw [h'] <;> simp
  case tickStartHigh =>
    refine gate _ ?_ h
    rcases driveStep_cases Config.startHighTicks Phase.ack1 s with ⟨-, h'⟩ | ⟨-, h'⟩ <;> rw [h'] <;> simp
  case tickAck1 => exact wait _ _ _ _ _ (by simp) h
  case tickAck2 => exact wait _ _ _ _ _ (by simp) h
  case tickAck3 => exact wait _ _ _ _ _ (by simp) h
  case tickBitLow => exact wait _ _ _ _ _ (by simp) h
  case tickBitHigh => refine wait _ _ _ _ _ ?_ h; unfold State.bitDone; split <;> simp
  case tickChecksum => refine gate _ ?_ h; unfold State.verify; split <;> simp
  case cmdRsvd => exact gate _ (by simp) h
  case wrCtrl => exact gate _ (by simp) h
  case tickPrep => exact gate _ (by simp) h
  case shiftIn => exact gate _ (by simp) h
  all_goals subst h; simp

end Sys2Proof.Machine
end

