-- ==== Sys2Proof/Laws/Run.lean ====
section
/-! SUPPORT. Runs: how steps and ticks follow each other. -/

namespace Sys2Proof.Machine

@[simp] theorem runSteps_zero (s : State) : runSteps 0 s = .next s := rfl

theorem runSteps_succ (n : Nat) (s : State) : runSteps (n + 1) s = andThen (step s) (runSteps n) := by
  cases h : step s <;> simp [runSteps, andThen, h]

theorem andThen_assoc (o : Host.Outcome State Fault Refusal) (f g : State → Host.Outcome State Fault Refusal) :
    andThen (andThen o f) g = andThen o fun s => andThen (f s) g := by
  cases o <;> rfl

theorem runSteps_add (m n : Nat) (s : State) : runSteps (m + n) s = andThen (runSteps m s) (runSteps n) := by
  induction m generalizing s with
  | zero => simp [andThen]
  | succ m ih =>
    rw [show m + 1 + n = m + n + 1 by omega, runSteps_succ, runSteps_succ, andThen_assoc]
    congr 1
    funext t
    exact ih t

/-- The step on a pending tick. -/
theorem step_tick (s : State) (smp : Bool) (rest : List Event) :
    step (s.withEvents (.tick smp :: rest)) = exec (decodePH (phWord s.phase smp)) (s.withEvents rest) :=
  rfl

/-- The step on a pending host transaction. -/
theorem step_host (s : State) (w : BitVec 36) (rest : List Event) :
    step (s.withEvents (.host w :: rest)) = exec (decodeHT w) (s.withEvents rest) :=
  rfl

/-! The shared operations carry the pending events through. -/

theorem outsideReset_withEvents {f : State → State} {s : State} {es : List Event}
    (h : f (s.withEvents es) = (f s).withEvents es) : outsideReset f (s.withEvents es) = (outsideReset f s).withEvents es := by
  cases hr : s.inReset <;> simp [outsideReset, hr, h]

theorem whenIdle_withEvents {f : State → State} {s : State} {es : List Event}
    (h : f (s.withEvents es) = (f s).withEvents es) : whenIdle f (s.withEvents es) = (whenIdle f s).withEvents es := by
  cases hb : s.busy
  · simp [whenIdle, hb, h]
  · simp [whenIdle, hb]; rfl

theorem driveStep_withEvents (n : Nat) (p : BitVec 4) (s : State) (es : List Event) :
    driveStep n p (s.withEvents es) = (driveStep n p s).withEvents es := by
  by_cases h : s.cnt.toNat + 1 = n
  · simp [driveStep, h]; rfl
  · simp [driveStep, h]; rfl

theorem waitStep_withEvents {f : State → State} {s : State} {es : List Event} (level : Bool) (kind : ErrKind) (i : BitVec 6)
    (smp : Bool) (h : f (s.withEvents es) = (f s).withEvents es) :
    waitStep level kind i f smp (s.withEvents es) = (waitStep level kind i f smp s).withEvents es := by
  by_cases hl : smp = level
  · by_cases hc : Config.timeoutLimit < s.cnt.toNat + 1
    · simp [waitStep, hl, hc]; rfl
    · simp [waitStep, hl, hc]; rfl
  · simp [waitStep, hl, h]

theorem bitDone_withEvents (s : State) (es : List Event) : (s.withEvents es).bitDone = s.bitDone.withEvents es := by
  by_cases h : s.bitIdx = 39
  · rw [bitDone_last h, bitDone_last (by simpa using h)]; rfl
  · rw [bitDone_next h, bitDone_next (by simpa using h)]; rfl

theorem verify_withEvents (s : State) (es : List Event) : (s.withEvents es).verify = s.verify.withEvents es := by
  cases h : checksumGood s.shreg
  · rw [verify_bad h, verify_bad (by simpa using h)]; rfl
  · rw [verify_good h, verify_good (by simpa using h)]; rfl

/-- No instruction reads the pending events: they are carried through. -/
theorem exec_withEvents (i : Instr) (s : State) (es : List Event) :
    exec i (s.withEvents es) = mapNext (State.withEvents es) (exec i s) := by
  cases i <;> simp only [exec, mapNext, execCmdNop, execCmdStart, execCmdClear, execCmdRsvd, execWrCtrl, execWrIgnored23,
    execWrIgnored47, execRd, execTickIdle, execTickPrep, execTickStartLow, execTickStartHigh, execTickAck1, execTickAck2,
    execTickAck3, execTickBitLow, execTickBitHigh, execTickChecksum, execTickSuccess, execTickFailure, execTickUnreachable,
    execReset, execClassify, execShiftIn, execChecksumOk, execExtract]
  case cmdStart => exact congrArg Host.Outcome.next (outsideReset_withEvents (whenIdle_withEvents rfl))
  case cmdClear => exact congrArg Host.Outcome.next (outsideReset_withEvents (whenIdle_withEvents rfl))
  case tickStartLow => exact congrArg Host.Outcome.next (outsideReset_withEvents (driveStep_withEvents _ _ _ _))
  case tickStartHigh => exact congrArg Host.Outcome.next (outsideReset_withEvents (driveStep_withEvents _ _ _ _))
  case tickAck1 => exact congrArg Host.Outcome.next (outsideReset_withEvents (waitStep_withEvents _ _ _ _ rfl))
  case tickAck2 => exact congrArg Host.Outcome.next (outsideReset_withEvents (waitStep_withEvents _ _ _ _ rfl))
  case tickAck3 => exact congrArg Host.Outcome.next (outsideReset_withEvents (waitStep_withEvents _ _ _ _ rfl))
  case tickBitLow => exact congrArg Host.Outcome.next (outsideReset_withEvents (waitStep_withEvents _ _ _ _ rfl))
  case tickBitHigh =>
    exact congrArg Host.Outcome.next (outsideReset_withEvents (waitStep_withEvents _ _ _ _ (bitDone_withEvents s es)))
  case tickChecksum => exact congrArg Host.Outcome.next (outsideReset_withEvents (verify_withEvents s es))
  case cmdRsvd => exact congrArg Host.Outcome.next (outsideReset_withEvents rfl)
  case wrCtrl => exact congrArg Host.Outcome.next (outsideReset_withEvents rfl)
  case tickPrep => exact congrArg Host.Outcome.next (outsideReset_withEvents rfl)
  case shiftIn => exact congrArg Host.Outcome.next (outsideReset_withEvents rfl)
  all_goals rfl

@[simp] theorem runTicks_nil (s : State) : runTicks [] s = .next (s.withEvents []) := rfl

/-- A run of ticks is its first tick and then the rest. -/
theorem runTicks_cons (smp : Bool) (rest : List Bool) (s : State) :
    runTicks (smp :: rest) s = andThen (exec (decodePH (phWord s.phase smp)) s) (runTicks rest) := by
  unfold runTicks
  rw [List.length_cons, List.map_cons, runSteps_succ, step_tick, exec_withEvents]
  cases exec (decodePH (phWord s.phase smp)) s <;> rfl

/-- A run of ticks in two parts. -/
theorem runTicks_append (l m : List Bool) (s : State) : runTicks (l ++ m) s = andThen (runTicks l s) (runTicks m) := by
  induction l generalizing s with
  | nil => rfl
  | cons smp l ih =>
    rw [List.cons_append, runTicks_cons, runTicks_cons, andThen_assoc]
    congr 1
    funext t
    exact ih t

/-- A START and then ticks. -/
theorem runStart_eq (samples : List Bool) (s : State) :
    runStart samples s = andThen (exec (decodeHT (htWord true 1 1)) s) (runTicks samples) := by
  unfold runStart
  rw [runSteps_succ, step_host, exec_withEvents]
  cases exec (decodeHT (htWord true 1 1)) s <;> simp [mapNext, andThen, runTicks]

end Sys2Proof.Machine
end

