-- ==== Sys2Proof/Tests/Slice0.lean ====
section
/-! SUPPORT. The model's own tests: the smoke test of WellFormed, words written out from the encodings of 30_encoding.md, single
steps whose expected values stand in 95_test_vectors.md (the vector is named in each comment), and a witness for the hypotheses
of each statement that has any. -/

namespace Sys2Proof.Tests

open Sys2Proof Sys2Proof.Machine Sys2Proof.Claims

/-- The reset state in another phase, with a count. -/
def inPhase (p : BitVec 4) (c : BitVec 15) : State :=
  { State.reset with phase := p, cnt := c }

/-- The outcome is a next state with a property. -/
def gives (o : Host.Outcome State Fault Refusal) (p : State → Bool) : Bool :=
  match o with
  | .next t => p t
  | .fault _ => false
  | .refused _ => false

/-- The outcome is this refusal. -/
def refuses (o : Host.Outcome State Fault Refusal) (r : Refusal) : Bool :=
  match o with
  | .next _ => false
  | .fault _ => false
  | .refused q => q == r

/-- The outcome is this fault. -/
def faults (o : Host.Outcome State Fault Refusal) (f : Fault) : Bool :=
  match o with
  | .next _ => false
  | .fault g => g == f
  | .refused _ => false

/-- One step of the reset state in a phase, with one event pending. -/
def after (s : State) (e : Event) : Host.Outcome State Fault Refusal :=
  step (s.withEvents [e])

/-! ## WellFormed: an ill-formed term for each check -/

theorem test_illformed_rsvd_nop : (Instr.cmdRsvd 0).wellFormed = false := by decide
theorem test_illformed_rsvd_start : (Instr.cmdRsvd 1).wellFormed = false := by decide
theorem test_illformed_rsvd_clear : (Instr.cmdRsvd 2).wellFormed = false := by decide
theorem test_illformed_ignored23 : (Instr.wrIgnored23 4 0).wellFormed = false := by decide
theorem test_illformed_ignored47 : (Instr.wrIgnored47 3 0).wellFormed = false := by decide
theorem test_illformed_unreachable : (Instr.tickUnreachable 11 true).wellFormed = false := by decide
theorem test_illformed_classify_0 : (Instr.classify 0).wellFormed = false := by decide
theorem test_illformed_classify_101 : (Instr.classify 101).wellFormed = false := by decide
theorem test_wellformed : (Instr.cmdRsvd 3).wellFormed && (Instr.wrIgnored23 3 0).wellFormed && (Instr.wrIgnored47 4 0).wellFormed
    && (Instr.tickUnreachable 12 true).wellFormed && (Instr.classify 100).wellFormed = true := by decide

/-! ## Decoding: each row's word, bit by bit (R71 to R74; the opcode table's patterns) -/

theorem test_decode_cmdNop : decode (.ht 0b100100000000000000000000000000000000) = .ok .cmdNop := by decide
theorem test_decode_cmdStart : decode (.ht 0b100100000000000000000000000000000001) = .ok .cmdStart := by decide
theorem test_decode_cmdClear : decode (.ht 0b100100000000000000000000000000000010) = .ok .cmdClear := by decide
theorem test_decode_cmdRsvd : decode (.ht 0b100100000000000000000000000000000011) = .ok (.cmdRsvd 3) := by decide
theorem test_decode_cmdRsvd_high : decode (.ht 0b100110000000000000000000000000000001) = .ok (.cmdRsvd 0x80000001) := by decide
theorem test_decode_wrCtrl : decode (.ht 0b100011111111111111111111111111111111) = .ok (.wrCtrl 0xFFFFFFFF) := by decide
theorem test_decode_wrIgnored23 : decode (.ht 0b101011111111111111111111111111111111) = .ok (.wrIgnored23 2 0xFFFFFFFF) := by decide
theorem test_decode_wrIgnored47 : decode (.ht 0b111000000000000000000000000000000101) = .ok (.wrIgnored47 6 5) := by decide
theorem test_decode_rd : decode (.ht 0b001000000000000000000000000000000000) = .ok (.rd 2) := by decide
theorem test_decode_rd_data_ignored : decode (.ht 0b011111111111111111111111111111111111) = .ok (.rd 7) := by decide
theorem test_decode_tickIdle : decode (.ph 0b00001) = .ok (.tickIdle true) := by decide
theorem test_decode_tickPrep : decode (.ph 0b00010) = .ok (.tickPrep false) := by decide
theorem test_decode_tickStartLow : decode (.ph 0b00101) = .ok (.tickStartLow true) := by decide
theorem test_decode_tickStartHigh : decode (.ph 0b00110) = .ok (.tickStartHigh false) := by decide
theorem test_decode_tickAck1 : decode (.ph 0b01001) = .ok (.tickAck1 true) := by decide
theorem test_decode_tickAck2 : decode (.ph 0b01010) = .ok (.tickAck2 false) := by decide
theorem test_decode_tickAck3 : decode (.ph 0b01101) = .ok (.tickAck3 true) := by decide
theorem test_decode_tickBitLow : decode (.ph 0b01110) = .ok (.tickBitLow false) := by decide
theorem test_decode_tickBitHigh : decode (.ph 0b10001) = .ok (.tickBitHigh true) := by decide
theorem test_decode_tickChecksum : decode (.ph 0b10010) = .ok (.tickChecksum false) := by decide
theorem test_decode_tickSuccess : decode (.ph 0b10101) = .ok (.tickSuccess true) := by decide
theorem test_decode_tickFailure : decode (.ph 0b10110) = .ok (.tickFailure false) := by decide
theorem test_decode_tickUnreachable : decode (.ph 0b11101) = .ok (.tickUnreachable 14 true) := by decide
theorem test_decode_reset : decode (.rst 0b0) = .ok .reset := by decide
theorem test_decode_no_reset : decode (.rst 0b1) = .error .resetNotAsserted := by decide
theorem test_decode_too_wide : decodeBytes .ht [0, 0, 0, 0, 0x10] = .error (.tooWide .ht) := by decide
theorem test_decode_bytes : decodeBytes .ht [0x01, 0, 0, 0, 0x09] = .ok .cmdStart := by decide
theorem test_internal_have_no_encoding :
    encode (.classify 31) = none ∧ encode (.shiftIn true) = none ∧ encode .checksumOk = none ∧ encode .extract = none := by decide
theorem test_table_rows : decodeTableWord 40 0x900000001 = some .cmdStart ∧ decodeTableWord 8 0x12 = some (.tickChecksum false)
    ∧ decodeTableWord 8 0 = some .reset ∧ decodeTableWord 8 1 = some (.tickIdle true) := by decide

/-! ## Host transactions -/

/-- V-H2: START after reset. -/
theorem test_start : gives (after State.reset (.host 0x900000001)) (fun t => t.rdval 2 == 0x00010001) = true := by decide
/-- V-H4: START while busy. -/
theorem test_start_busy : gives (after (inPhase 2 5) (.host 0x900000001)) (fun t => t.rdval 2 == 0x00020009 && t.cnt == 5) = true := by
  decide
/-- V-H11: CLEAR after a ChecksumError. -/
theorem test_clear : gives (after { inPhase 11 0 with done := true, errcode := 6, bitIdx := 39 } (.host 0x900000002))
    (fun t => t.rdval 2 == 0 && t.bitIdx == 0) = true := by decide
/-- V-H5: CLEAR while busy. -/
theorem test_clear_busy : gives (after { inPhase 2 5 with cmderr := true } (.host 0x900000002)) (fun t => t.rdval 2 == 0x00020009) = true := by
  decide
/-- V-H6: NOP while busy. -/
theorem test_nop : gives (after { inPhase 2 5 with cmderr := true } (.host 0x900000000)) (fun t => t.rdval 2 == 0x00020009) = true := by
  decide
/-- V-H9: the whole command word is compared. -/
theorem test_rsvd : gives (after State.reset (.host 0x980000001)) (fun t => t.rdval 2 == 0x00000008) = true := by decide
/-- V-H14: the upper bits of CTRL are discarded. -/
theorem test_wrCtrl : gives (after State.reset (.host 0x8FFFFFFFF)) (fun t => t.rdval 0 == 1 && !t.irq) = true := by decide
/-- V-H15: `irq` rises at once. -/
theorem test_wrCtrl_irq : gives (after { inPhase 10 0 with done := true, ok := true } (.host 0x800000001))
    (fun t => t.irq && t.rdval 2 == 0x000A0006) = true := by decide
/-- V-H7: STATUS is read-only. -/
theorem test_wrIgnored23 : gives (after { inPhase 2 5 with cmderr := true } (.host 0xAFFFFFFFF)) (fun t => t.rdval 2 == 0x00020009) = true := by
  decide
/-- R158: a write to an unmapped index. -/
theorem test_wrIgnored47 : gives (after State.reset (.host 0xE00000001)) (fun t => t == State.reset) = true := by decide
/-- V-H16: READING after V-C1's frame. -/
theorem test_rd : gives (after { inPhase 10 0 with done := true, ok := true, shreg := 0x3200150047 } (.host 0x500000000))
    (fun t => t.rdata == 0x00001532) = true := by decide
/-- V-H17: READING after a failure. -/
theorem test_rd_failed : gives (after { inPhase 11 0 with done := true, errcode := 6, shreg := 0x3200150048 } (.host 0x500000000))
    (fun t => t.rdata == 0) = true := by decide
/-- Section 2.1, V-C8: FRAME_LO and FRAME_HI. -/
theorem test_frame_views : ({ State.reset with ok := true, shreg := 0x37008105BD } : State).rdval 3 = 0x05810037
    ∧ ({ State.reset with ok := true, shreg := 0x37008105BD } : State).rdval 4 = 0x000000BD := by decide
/-- V-H18: CMD and the unmapped indices read 0; section 2.2, V-T15: STATUS of BitTimeoutRising(39). -/
theorem test_status_fields :
    ({ State.reset with phase := 11, done := true, errcode := 4, errbit := 39 } : State).rdval 2 = 0x000B2742
      ∧ ({ State.reset with ok := true, shreg := 0x3200150047 } : State).rdval 6 = 0 := by decide
/-- R9, R54: MemRead(0x14, 4). -/
theorem test_bus_read : gives (after { inPhase 10 0 with ok := true, shreg := 0x3200150047 } (.bus false 0x14 4 0))
    (fun t => t.rdata == 0x00001532) = true := by decide
/-- R54: other shapes are refused; R50: there is no register at 0x20. -/
theorem test_bus_refused : refuses (after State.reset (.bus true 0x06 4 0)) (.notWholeRegister 6 4) = true
    ∧ refuses (after State.reset (.bus true 0x04 2 0)) (.notWholeRegister 4 2) = true
    ∧ faults (after State.reset (.bus true 0x20 4 0)) (.noSuchRegister 32) = true := by decide

/-! ## Ticks -/

/-- V-P1. -/
theorem test_tickIdle : gives (after State.reset (.tick false)) (fun t => t == State.reset) = true := by decide
/-- V-P2. -/
theorem test_tickPrep : gives (after (inPhase 1 0) (.tick true)) (fun t => t == inPhase 2 0) = true := by decide
/-- V-P3, V-P4. -/
theorem test_tickStartLow : gives (after (inPhase 2 17998) (.tick true)) (fun t => t == inPhase 2 17999)
    && gives (after (inPhase 2 17999) (.tick true)) (fun t => t == inPhase 3 0) = true := by decide
/-- V-P5. -/
theorem test_tickStartHigh : gives (after (inPhase 3 29) (.tick true)) (fun t => t == inPhase 4 0 && !t.lineOe) = true := by decide
/-- V-P6, V-P7. -/
theorem test_tickAck1_high : gives (after (inPhase 4 99) (.tick true)) (fun t => t == inPhase 4 100)
    && gives (after (inPhase 4 100) (.tick true)) (fun t => t.rdval 2 == 0x000B0012) = true := by decide
/-- V-P8. -/
theorem test_tickAck1_low : gives (after (inPhase 4 0) (.tick false)) (fun t => t == inPhase 5 1) = true := by decide
/-- V-P9. -/
theorem test_tickAck2_low : gives (after (inPhase 5 100) (.tick false)) (fun t => t.rdval 2 == 0x000B0022) = true := by decide
/-- V-P10. -/
theorem test_tickAck2_high : gives (after (inPhase 5 100) (.tick true)) (fun t => t == inPhase 6 1) = true := by decide
/-- V-P11. -/
theorem test_tickAck3_high : gives (after (inPhase 6 100) (.tick true)) (fun t => t.rdval 2 == 0x000B0032) = true := by decide
/-- V-P12. -/
theorem test_tickAck3_low : gives (after { inPhase 6 5 with bitIdx := 9 } (.tick false)) (fun t => t == inPhase 7 1) = true := by decide
/-- V-P13. -/
theorem test_tickBitLow_low : gives (after { inPhase 7 100 with bitIdx := 17 } (.tick false))
    (fun t => t.errcode == 4 && t.errbit == 17 && t.phase == 11) = true := by decide
/-- V-P14. -/
theorem test_tickBitLow_high : gives (after { inPhase 7 100 with bitIdx := 17 } (.tick true))
    (fun t => t == { inPhase 8 1 with bitIdx := 17 }) = true := by decide
/-- V-P15, and V-P18: the last bit. -/
theorem test_tickBitHigh_end : gives (after { inPhase 8 100 with bitIdx := 3, shreg := 5 } (.tick true))
      (fun t => t.errcode == 5 && t.errbit == 3 && t.shreg == 0)
    && gives (after { inPhase 8 24 with bitIdx := 39 } (.tick false)) (fun t => t == { inPhase 9 0 with bitIdx := 39 }) = true := by
  decide
/-- V-P16, V-P17: the threshold. -/
theorem test_tickBitHigh_bit : gives (after { inPhase 8 30 with bitIdx := 3, shreg := 5 } (.tick false))
      (fun t => t == { inPhase 7 1 with bitIdx := 4, shreg := 0xA })
    && gives (after { inPhase 8 31 with bitIdx := 3, shreg := 5 } (.tick false))
      (fun t => t == { inPhase 7 1 with bitIdx := 4, shreg := 0xB }) = true := by decide
/-- V-P19. -/
theorem test_tickChecksum_good : gives (after { inPhase 9 0 with bitIdx := 39, shreg := 0x3200150047, ie := true } (.tick true))
    (fun t => t.rdval 2 == 0x000A0006 && t.rdval 5 == 0x00001532 && t.irq && !t.excl) = true := by decide
/-- V-P20. -/
theorem test_tickChecksum_bad : gives (after { inPhase 9 0 with bitIdx := 39, shreg := 0x3200150048 } (.tick true))
    (fun t => t.rdval 2 == 0x000B0062 && t.shreg == 0) = true := by decide
/-- V-P21. -/
theorem test_tickSuccess : gives (after { inPhase 10 0 with done := true, ok := true } (.tick false)) (fun t => t.rdval 2 == 0x000A0006) = true := by
  decide
/-- V-P21. -/
theorem test_tickFailure : gives (after { inPhase 11 0 with done := true, errcode := 5, errbit := 5 } (.tick false))
    (fun t => t.rdval 2 == 0x000B0552) = true := by decide
/-- V-P22. -/
theorem test_tickUnreachable : refuses (after (inPhase 13 0) (.tick false)) (.unreachablePhase 13) = true := by decide

/-! ## Reset, the frame operations, the cycle -/

/-- V-R1. -/
theorem test_reset : gives (after { inPhase 2 8999 with ie := true } .rst)
    (fun t => t.rdval 2 == 0 && t.rdval 0 == 0 && !t.lineOe && !t.irq && !t.excl && t.cnt == 0) = true := by decide
/-- V-R2. -/
theorem test_reset_result : gives (after { inPhase 10 0 with done := true, ok := true, shreg := 0x3200150047 } .rst)
    (fun t => t.rdval 2 == 0 && t.rdval 5 == 0) = true := by decide
/-- R190: a write in reset is ignored. -/
theorem test_write_in_reset : gives (after { State.reset with rstN := false } (.host 0x900000001)) (fun t => t.phase == 0 && !t.cmderr) = true := by
  decide
/-- Section 2.1: D = 30 and D = 31. -/
theorem test_classify : gives (exec (.classify 30) State.reset) (fun t => t.opOut == 0)
    && gives (exec (.classify 31) State.reset) (fun t => t.opOut == 1) = true := by decide
/-- R102's example, its last bit. -/
theorem test_shiftIn : gives (exec (.shiftIn false) { State.reset with shreg := 0x19 }) (fun t => t.shreg == 0x32) = true := by decide
/-- V-C4, V-C5, V-C6. -/
theorem test_checksumOk : checksumGood 0xFFFFFFFFFC = true ∧ checksumGood 0xFFFFFFFFFF = false ∧ checksumGood 0x10F0000000 = true := by
  decide
/-- V-C2. -/
theorem test_checksumOk_bad : gives (exec .checksumOk { State.reset with shreg := 0x3200150048, opOut := 7 }) (fun t => t.opOut == 0) = true := by
  decide
/-- V-C8, READING. -/
theorem test_extract : gives (exec .extract { State.reset with ok := true, shreg := 0x37008105BD }) (fun t => t.opOut == 0x00008137) = true := by
  decide
/-- V-H19, V-H20: the order of a tick and a host access in one cycle. -/
theorem test_cycle_order : cycleEvents (some true) (some 0x900000001) = [.tick true, .host 0x900000001]
    ∧ cycleEvents (some true) (some 0x200000000) = [.host 0x200000000, .tick true] := by decide
/-- V-H19, V-H20: the read value, and the state after. -/
theorem test_cycle_values :
    gives (runSteps 2 ({ inPhase 9 0 with shreg := 0x3200150048 }.withEvents (cycleEvents (some true) (some 0x900000001))))
      (fun t => t.rdval 2 == 0x00010001)
    && gives (runSteps 2 ({ inPhase 9 0 with shreg := 0x3200150048 }.withEvents (cycleEvents (some true) (some 0x200000000))))
      (fun t => t.rdata == 0x00090001 && t.phase == 11) = true := by decide
/-- R86: the expansions present the words of program P1. -/
theorem test_pseudo : Pseudo.readSensor.expand.map HostOp.word = [0x900000001, 0x200000000, 0x300000000, 0x400000000, 0x500000000]
    ∧ Pseudo.irqOn.expand.map HostOp.word = [0x800000001] := by decide
/-- R86: a poll waits for `done`. -/
theorem test_poll : hostNext 0x00020001 Pseudo.waitDone.expand = Pseudo.waitDone.expand ∧ hostNext 0x000A0006 Pseudo.waitDone.expand = [] := by
  decide
/-- R159, with the STATUS words of V-T1 and V-T14. -/
theorem test_hostResult : hostResult 0x000A0006 0x00001532 = some (.reading 50 21)
    ∧ hostResult 0x000B0552 0 = some (.error .bitTimeoutHigh 5) ∧ hostResult 0x00020001 0 = none := by decide
/-- An RST word of 1 is no event and none is placed for it (assumption 8); a word of 0 is the reset event (R73). -/
theorem test_rst_word_one : State.reset.withFetchWord 1 1 = State.reset ∧ decodeTableWord 1 1 = none
    ∧ (State.reset.withFetchWord 1 0).events = [.rst] := by decide

/-- A word of the table runs as the very next event: BIT_HIGH's tick with S = 1 in phase 8. -/
theorem test_withFetchWord : gives (step (State.reset.withFetchWord 8 0x11)) (fun t => t.phase == 8 && t.cnt == 1)
    && gives (step (State.reset.withFetchWord 40 0x900000001)) (fun t => t.phase == 1) = true := by decide

/-! ## Witnesses: for each statement with hypotheses, a state and operands that meet them all together -/

/-- A state of the invariant, with its prescaler at 0. -/
theorem inv_intro {s : State} (h : (s.phaseOk && s.cntOk && s.bitIdxOk && s.shregOk && s.flagsOk && s.errOk) = true)
    (hp : s.presc = 0) : s.Inv := by
  simp only [Bool.and_eq_true] at h
  obtain ⟨⟨⟨⟨⟨h₁, h₂⟩, h₃⟩, h₄⟩, h₅⟩, h₆⟩ := h
  exact ⟨h₁, h₂, h₃, h₄, h₅, h₆, by simp [State.prescOk, hp, Config.clkPerTick]⟩

/-- ACK1 with its run full and a high sample next. -/
def ackFull : State := { inPhase 4 100 with events := [.tick true] }

/-- CHECKSUM with V-C1's frame. -/
def goodFrame : State := { inPhase 9 0 with bitIdx := 39, shreg := 0x3200150047, events := [.tick true] }

/-- CHECKSUM with V-C2's frame. -/
def badFrame : State := { inPhase 9 0 with bitIdx := 39, shreg := 0x3200150048, events := [.tick true] }

/-- SUCCESS with V-C1's frame. -/
def succeeded (e : Event) : State :=
  { inPhase 10 0 with bitIdx := 39, shreg := 0x3200150047, done := true, ok := true, ie := true, events := [e] }

/-- FAILURE of bit 5's high phase (V-T14). -/
def stalled (e : Event) : State :=
  { inPhase 11 0 with bitIdx := 5, done := true, errcode := 5, errbit := 5, ie := true, events := [e] }

theorem witness_DecodeOfEncodeIsIdentity : (Instr.cmdRsvd 3).wellFormed = true ∧ (Instr.classify 1).wellFormed = true := by decide

theorem witness_StepRunsTheDecodedEvent : goodFrame.events = .tick true :: [] ∧ eventWord goodFrame (.tick true) = .next (.ph 0b10011)
    ∧ decode (.ph 0b10011) = .ok (.tickChecksum true) ∧ ({ State.reset with events := [.rst] } : State).events = .rst :: [] :=
  ⟨rfl, rfl, rfl, rfl⟩

theorem witness_InResetOnlyReadsAnswer : ({ State.reset with rstS2 := false } : State).inReset = true
    ∧ htWrite 0x900000001 = true ∧ (11 : BitVec 4).toNat ≤ 11 := by decide

theorem witness_StepKeepsResetHeld : ∃ s t : State, s.ResetHeld ∧ s.inReset = true ∧ s.events = [.rst] ∧ step s = .next t :=
  ⟨{ State.reset with phase := 2, rstN := false, rstS1 := false, rstS2 := false, events := [.rst] }, _,
    ⟨⟨by decide, by decide⟩, fun _ => .inl rfl⟩, by decide, rfl, rfl⟩

theorem witness_StepKeepsResetHeld_performed : ∃ s t : State, s.ResetHeld ∧ step s = .next t ∧ t.inReset = true ∧ t.events = [] :=
  ⟨{ State.reset with phase := 2, rstN := false, rstS1 := false, rstS2 := false, events := [.rst] }, _,
    ⟨⟨by decide, by decide⟩, fun _ => .inl rfl⟩, rfl, by decide, rfl⟩

theorem witness_ReleaseTakesTwoEdges : ∃ (s : State) (c : CycleIn), s.events = [] ∧ s.rstS1 = false ∧ s.rstS2 = false
    ∧ s.inputs = c :: c :: [] ∧ c.rstN = true ∧ ∀ w, c.host = some w → htWrite w = true :=
  ⟨{ State.reset with
      rstN := false, rstS1 := false, rstS2 := false
      inputs := [⟨true, true, some 0x900000001⟩, ⟨true, true, some 0x900000001⟩] }, ⟨true, true, some 0x900000001⟩,
    rfl, rfl, rfl, rfl, rfl, by intro w h; cases h; decide⟩

theorem witness_StepKeepsInvariant : ∃ s t : State, s.Inv ∧ step s = .next t ∧ t.phase = 10 :=
  ⟨goodFrame, _, inv_intro (by decide) rfl, rfl, by decide⟩

/-- For the statements on one instruction out of reset. -/
theorem witness_outOfReset : (inPhase 1 0).inReset = false ∧ (inPhase 1 0).phase = 1 ∧ (inPhase 2 17999).inReset = false
    ∧ (inPhase 3 29).inReset = false ∧ (inPhase 4 100).inReset = false ∧ (inPhase 8 31).inReset = false := by decide

theorem witness_StartPulse : State.reset.inReset = false ∧ State.reset.busy = false
    ∧ (List.replicate 0 false).length = 0 ∧ (List.replicate 1 false).length = 1 ∧ (List.replicate 18000 false).length = 18000
    ∧ (List.replicate 18001 false).length = 18001 ∧ (List.replicate 18030 false).length = 18030
    ∧ (List.replicate 18031 false).length = 18031 :=
  ⟨by decide, by decide, List.length_replicate, List.length_replicate, List.length_replicate, List.length_replicate,
    List.length_replicate, List.length_replicate⟩

theorem witness_RunOf101TimesOut : waits (inPhase 4 0) true 1 0 ∧ (inPhase 4 0).cnt.toNat + 101 = 101
    ∧ waits (inPhase 5 1) false 2 0 ∧ waits (inPhase 6 1) true 3 0 ∧ waits { inPhase 7 1 with bitIdx := 17 } false 4 17
    ∧ waits { inPhase 8 1 with bitIdx := 39 } true 5 39 ∧ (inPhase 8 1).cnt.toNat ≤ 1 ∧ (inPhase 8 1).cnt.toNat + 99 ≤ 100
    ∧ (inPhase 8 1).cnt.toNat + 100 = 101 ∧ (inPhase 8 1).inReset = false ∧ State.reset.busy = false :=
  ⟨by decide, by decide, by decide, by decide, by decide, by decide, by decide, by decide, by decide, by decide, by decide⟩

theorem witness_ChecksumTick : sumHolds goodFrame.shreg ∧ ¬ sumHolds badFrame.shreg ∧ goodFrame.inReset = false
    ∧ badFrame.inReset = false := by
  decide

theorem witness_FailureEntryRecordsTheCause : ∃ t u : State, step ackFull = .next t ∧ ackFull.phase ≠ 11 ∧ t.phase = 11
    ∧ step badFrame = .next u ∧ badFrame.phase ≠ 11 ∧ u.phase = 11 :=
  ⟨_, _, rfl, by decide, by decide, rfl, by decide, by decide⟩

theorem witness_UnreachablePhasesAreRefused : ∃ t : State, ({ inPhase 12 0 with events := [.tick true] } : State).events = [.tick true]
    ∧ 12 ≤ (inPhase 12 0).phase.toNat ∧ step goodFrame = .next t ∧ goodFrame.phase.toNat ≤ 11 :=
  ⟨_, rfl, by decide, rfl, by decide⟩

theorem witness_SampleReadOnlyInWaitPhases : ¬ (4 ≤ (inPhase 3 0).phase.toNat ∧ (inPhase 3 0).phase.toNat ≤ 8)
    ∧ ¬ (4 ≤ (inPhase 9 0).phase.toNat ∧ (inPhase 9 0).phase.toNat ≤ 8) ∧ 4 ≤ (4 : BitVec 4).toNat ∧ (8 : BitVec 4).toNat ≤ 8 := by
  decide

theorem witness_HighTimeIsMeasuredExactly : (inPhase 7 1).inReset = false ∧ (inPhase 7 1).phase = 7
    ∧ ({ inPhase 7 1 with bitIdx := 39 } : State).phase = 7 ∧ 1 ≤ 100 ∧ 100 ≤ 100 := by decide

theorem witness_NothingAfterATimeoutMatters : (inPhase 4 100).inReset = false ∧ waits (inPhase 4 100) true 1 0
    ∧ waits (inPhase 5 100) false 2 0 ∧ waits (inPhase 6 100) true 3 0 ∧ waits { inPhase 7 100 with bitIdx := 39 } false 4 39
    ∧ waits { inPhase 8 100 with bitIdx := 5 } true 5 5 ∧ (inPhase 8 100).cnt = 100 :=
  ⟨by decide, by decide, by decide, by decide, by decide, by decide, by decide⟩

theorem witness_RestingBlockIgnoresTheLine : State.reset.atRest = true ∧ (succeeded .rst).atRest = true
    ∧ (stalled .rst).atRest = true := by decide

theorem witness_RestingTicksChangeNothing : ∃ t : State, (succeeded (.host 0x900000002)).atRest = true
    ∧ step (succeeded (.host 0x900000002)) = .next t ∧ t.phase ≠ (succeeded (.host 0x900000002)).phase ∧ State.reset.atRest = true :=
  ⟨_, by decide, rfl, by decide, by decide⟩

theorem witness_PhasesAreLinear : ∃ t u : State, goodFrame.Inv ∧ step goodFrame = .next t ∧ goodFrame.phase ≠ t.phase
    ∧ (succeeded (.host 0x900000001)).Inv ∧ step (succeeded (.host 0x900000001)) = .next u
    ∧ (succeeded (.host 0x900000001)).phase ≠ 1 ∧ u.phase = 1 :=
  ⟨_, _, inv_intro (by decide) rfl, rfl, by decide, inv_intro (by decide) rfl, rfl, by decide, by decide⟩

theorem witness_PhasesAreLinear_busy : ∃ t : State, ({ inPhase 8 31 with bitIdx := 3, events := [.tick false] } : State).Inv
    ∧ step { inPhase 8 31 with bitIdx := 3, events := [.tick false] } = .next t ∧ (inPhase 8 31).busy = true ∧ t.busy = true :=
  ⟨_, inv_intro (by decide) rfl, rfl, by decide, by decide⟩

theorem witness_EveryTransactionEnds : State.reset.inReset = false ∧ State.reset.busy = false := by decide

/-- High times on both sides of the threshold and at the ends of the range: 30 and 1 for a 0, 31 and 100 for a 1. -/
def edgeHigh (frame : BitVec 40) (i : Nat) : Nat :=
  if wireBit frame i then if i < 20 then 31 else 100 else if i < 20 then 30 else 1

/-- Low times at both ends of the range. -/
def edgeLow (i : Nat) : Nat :=
  if i < 20 then 1 else 100

theorem witness_FrameRoundTrip : State.reset.inReset = false ∧ State.reset.busy = false
    ∧ (List.replicate 18031 false).length = 18031 ∧ (0 ≤ 100 ∧ 1 ≤ 1 ∧ 1 ≤ 100 ∧ 100 ≤ 100)
    ∧ (∀ b₄ : Byte, b₄ = 0x47 ∨ b₄ = 0x48 → ∀ i, i < 40 → 1 ≤ edgeLow i ∧ edgeLow i ≤ 100
      ∧ 1 ≤ edgeHigh (0x32150000#32 ++ b₄) i ∧ edgeHigh (0x32150000#32 ++ b₄) i ≤ 100
      ∧ (30 < edgeHigh (0x32150000#32 ++ b₄) i
          ↔ wireBit ((0x32 : Byte) ++ (0x15 : Byte) ++ (0x00 : Byte) ++ (0x00 : Byte) ++ b₄) i = true))
    ∧ (0x47 : Byte) = 0x32 + 0x15 + 0x00 + 0x00 ∧ (0x48 : Byte) ≠ 0x32 + 0x15 + 0x00 + 0x00
    ∧ edgeHigh 0x3215000047 0 = 30 ∧ edgeHigh 0x3215000047 2 = 31 ∧ edgeHigh 0x3215000047 39 = 100 := by
  refine ⟨by decide, by decide, List.length_replicate, by decide, ?_, by decide⟩
  rintro _ (rfl | rfl) <;> decide

theorem witness_StartCommand : State.reset.inReset = false ∧ State.reset.busy = false ∧ (stalled .rst).busy = false
    ∧ (inPhase 1 0).busy = true ∧ (inPhase 9 0).busy = true ∧ (inPhase 9 0).inReset = false := by decide

theorem witness_ReservedCommandsSetCmderr : State.reset.inReset = false ∧ (3 : Word) ≠ 0 ∧ (3 : Word) ≠ 1 ∧ (3 : Word) ≠ 2 := by
  decide

theorem witness_CmderrIsSticky : ∃ t u : State, (inPhase 2 5).inReset = false
    ∧ ({ inPhase 2 5 with events := [.host 0x900000001] } : State).nextInstr = some .cmdStart ∧ rejected (inPhase 2 5) .cmdStart = true
    ∧ after (inPhase 2 5) (.host 0x900000003) = .next t ∧ (inPhase 2 5).cmderr = false ∧ t.cmderr = true
    ∧ after { inPhase 0 0 with cmderr := true } (.host 0x900000002) = .next u ∧ u.cmderr = false :=
  ⟨_, _, by decide, by decide, by decide, rfl, by decide, by decide, rfl, by decide⟩

theorem witness_InterruptEnableIsTheHosts : ∃ t u : State, after State.reset (.host 0x800000001) = .next t ∧ State.reset.ie ≠ t.ie
    ∧ after (succeeded .rst) .rst = .next u ∧ (succeeded .rst).ie ≠ u.ie :=
  ⟨_, _, rfl, by decide, rfl, by decide⟩

theorem witness_ResultIsStable : ∃ t u : State, goodFrame.Inv ∧ step goodFrame = .next t ∧ goodFrame.nextInstr ≠ some .reset
    ∧ goodFrame.rdval 3 ≠ t.rdval 3 ∧ goodFrame.rdval 4 ≠ t.rdval 4 ∧ goodFrame.rdval 5 ≠ t.rdval 5
    ∧ (succeeded (.host 0x900000002)).Inv ∧ step (succeeded (.host 0x900000002)) = .next u
    ∧ (succeeded (.host 0x900000002)).nextInstr ≠ some .reset ∧ (succeeded (.host 0x900000002)).rdval 5 ≠ u.rdval 5
    ∧ (succeeded (.host 0x900000002)).phase = 10 ∧ u.phase ≠ 10 :=
  ⟨_, _, inv_intro (by decide) rfl, rfl, by decide, by decide, by decide, by decide, inv_intro (by decide) rfl, rfl, by decide,
    by decide, by decide, by decide⟩

theorem witness_DoneAndOkMarkTheEnd : ∃ t u : State, goodFrame.Inv ∧ step goodFrame = .next t ∧ goodFrame.done = false ∧ t.done = true
    ∧ goodFrame.ok = false ∧ t.ok = true ∧ (succeeded (.host 0x900000001)).Inv
    ∧ step (succeeded (.host 0x900000001)) = .next u ∧ (succeeded (.host 0x900000001)).done = true ∧ u.done = false :=
  ⟨_, _, inv_intro (by decide) rfl, rfl, by decide, by decide, by decide, by decide, inv_intro (by decide) rfl, rfl, by decide,
    by decide⟩

theorem witness_OnlyWholeRegisterAccesses : ({ State.reset with events := [.bus true 28 4 1] } : State).events = .bus true 28 4 1 :: []
    ∧ 28 = 4 * (7 : BitVec 3).toNat ∧ ({ State.reset with events := [.bus true 6 4 1] } : State).events = .bus true 6 4 1 :: []
    ∧ (6 % 4 ≠ 0) := by decide

theorem witness_NoRegisterAboveTheLast : ({ State.reset with events := [.bus true 32 4 1] } : State).events = .bus true 32 4 1 :: []
    ∧ 32 % 4 = 0 ∧ 32 ≤ 32 := by decide

theorem witness_HostReadsTheResult : State.reset.Inv ∧ State.reset.done = false ∧ (succeeded .rst).Inv ∧ (succeeded .rst).done = true
    ∧ (succeeded .rst).ok = true ∧ (stalled .rst).Inv ∧ (stalled .rst).done = true ∧ (stalled .rst).ok = false :=
  ⟨inv_intro (by decide) rfl, by decide, inv_intro (by decide) rfl, by decide, by decide, inv_intro (by decide) rfl, by decide,
    by decide⟩

theorem witness_PadFollowsThePhase : (inPhase 1 0).phase = 1 ∧ (inPhase 3 0).phase = 3 ∧ (inPhase 2 0).phase = 2
    ∧ (inPhase 4 0).phase ≠ 1 ∧ (inPhase 4 0).phase ≠ 2 ∧ (inPhase 4 0).phase ≠ 3 := by decide

theorem witness_InterruptIsALevel : ∃ t u v : State, step { goodFrame with ie := true } = .next t ∧ goodFrame.irq = false ∧ t.irq = true
    ∧ step (succeeded (.host 0x900000002)) = .next u ∧ (succeeded (.host 0x900000002)).irq = true ∧ u.irq = false
    ∧ step { succeeded (.host 0x800000001) with ie := false } = .next v ∧ v.irq = true :=
  ⟨_, _, _, rfl, by decide, by decide, rfl, by decide, by decide, rfl, by decide⟩

theorem witness_ExclusiveWindow : ∃ t u : State, ({ inPhase 1 0 with events := [.tick true] } : State).Inv
    ∧ step { inPhase 1 0 with events := [.tick true] } = .next t ∧ (inPhase 1 0).excl = false ∧ t.excl = true
    ∧ goodFrame.Inv ∧ step goodFrame = .next u ∧ goodFrame.excl = true ∧ u.excl = false :=
  ⟨_, _, inv_intro (by decide) rfl, rfl, by decide, by decide, inv_intro (by decide) rfl, rfl, by decide, by decide⟩

theorem witness_ShiftInOrdersTheFrame : 39 < 40 ∧ (4 : Fin 5).val = 39 / 8 ∧ (0 : Fin 5).val = 0 / 8 := by decide

theorem witness_InternalOperationsGiveTheirValue : sumHolds 0x3200150047 ∧ ¬ sumHolds 0x3200150048
    ∧ (succeeded .rst).ok = true ∧ State.reset.ok = false := by
  decide

theorem witness_SameCycleOrder : ∃ (s : State) (c d : CycleIn), s.events = [] ∧ s.inputs = c :: d :: [] ∧ c.host = some 0x200000000
    ∧ c.rstN = true ∧ s.rstS1 = true ∧ s.rstS2 = true ∧ s.presc + 1 = Config.clkPerTick ∧ htWrite 0x200000000 = false
    ∧ htWrite 0x900000001 = true :=
  ⟨{ State.reset with presc := Config.clockExcess + 1, inputs := [⟨true, true, some 0x200000000⟩, ⟨true, true, none⟩] },
    ⟨true, true, some 0x200000000⟩, ⟨true, true, none⟩, rfl, rfl, rfl, rfl, rfl, rfl, rfl, by decide, by decide⟩

theorem witness_PrescalerMakesTheTick : State.reset.events = [] ∧ State.reset.cycleInReset = false
    ∧ State.reset.presc + 1 ≠ Config.clkPerTick
    ∧ ({ State.reset with presc := Config.clockExcess + 1 } : State).presc + 1 = Config.clkPerTick
    ∧ Instr.wrCtrl 1 ≠ .reset :=
  ⟨rfl, by decide, by simp [State.reset, Config.clkPerTick], rfl, by decide⟩

/-- A START in the cycle before the tick's, and a read in the tick's own. -/
theorem witness_TickWithinOnePeriod : ∃ (s : State) (cycles : List CycleIn) (last : CycleIn), s.events = []
    ∧ s.inputs = cycles ++ last :: [] ∧ s.stagesOk ∧ s.rstS2 = true ∧ (∀ c, c ∈ cycles → c.rstN = true) ∧ last.rstN = true
    ∧ s.presc + cycles.length + 1 = Config.clkPerTick ∧ cycles.countP (·.host.isSome) = 1 :=
  ⟨{ State.reset with
      presc := Config.clockExcess, inputs := [⟨true, true, some 0x900000001⟩, ⟨true, false, some 0x200000000⟩] },
    [⟨true, true, some 0x900000001⟩], ⟨true, false, some 0x200000000⟩, rfl, rfl, ⟨by decide, by decide⟩, rfl, by simp, rfl,
    rfl, rfl⟩

/-- Its clauses for an idle host. -/
theorem witness_TickWithinOnePeriod_idle : ∃ (s : State) (last : CycleIn), s.events = [] ∧ s.inputs = [] ++ last :: []
    ∧ s.stagesOk ∧ s.rstS2 = true ∧ last.rstN = true ∧ s.presc + 0 + 1 = Config.clkPerTick ∧ last.host = none :=
  ⟨{ State.reset with presc := Config.clockExcess + 1, inputs := [⟨true, true, none⟩] }, ⟨true, true, none⟩, rfl, rfl,
    ⟨by decide, by decide⟩, rfl, rfl, rfl, rfl⟩

theorem witness_HiddenStateIsInvisible : (inPhase 7 20).ok = false := by decide

theorem witness_SynchroniserDelaysTwoCycles :
    .tick true ∈ ({ State.reset with presc := Config.clockExcess + 1 } : State).clockCycle.events := by
  simp [State.cycleInReset, State.nextInput, State.tickDue, State.reset, Config.clkPerTick, cycleEvents]

theorem witness_InstructionFrames : ∃ t : State, exec (.rd 2) State.reset = .next t ∧ Instr.rd 2 ≠ .reset
    ∧ (∀ d, Instr.rd 2 ≠ .classify d) ∧ (∀ data, Instr.rd 2 ≠ .wrCtrl data) ∧ (∀ data, Instr.rd 2 ≠ .cmdRsvd data)
    ∧ (∀ idx, Instr.cmdNop ≠ .rd idx) :=
  ⟨_, rfl, by decide, by simp, by simp, by simp, by simp⟩

end Sys2Proof.Tests
end

/-! Lemmas about the step and about the host's two bits, `ie` and `cmderr`, and the proofs of the statements of 10_state.md. -/

namespace Sys2Proof

/-- The rows of the PH format (R72). -/
def Instr.isTick : Instr → Bool
  | .tickIdle _ | .tickPrep _ | .tickStartLow _ | .tickStartHigh _ | .tickAck1 _ | .tickAck2 _ | .tickAck3 _ => true
  | .tickBitLow _ | .tickBitHigh _ | .tickChecksum _ | .tickSuccess _ | .tickFailure _ | .tickUnreachable _ _ => true
  | _ => false

@[simp] theorem decodePH_isTick : ∀ w : BitVec 5, (decodePH w).isTick = true := by
  decide

end Sys2Proof

namespace Sys2Proof.Machine

/-! ## The step and the instruction it executes -/

theorem nextInstr_of_event {s : State} {e : Event} {rest : List Event} {w : EventWord} {i : Instr}
    (he : s.events = e :: rest) (hw : eventWord s e = .next w) (hd : decode w = .ok i) : s.nextInstr = some i := by
  simp only [State.nextInstr, he, hw, hd]

/-- `nextInstr` is the instruction the step executes. -/
theorem step_of_nextInstr {s : State} {i : Instr} (h : s.nextInstr = some i) :
    step s = exec i (s.withEvents s.events.tail) := by
  unfold State.nextInstr at h
  unfold step
  cases he : s.events with
  | nil => simp [he] at h
  | cons e rest =>
    cases hw : eventWord s e with
    | fault f => simp [he, hw] at h
    | refused r => simp [he, hw] at h
    | next w =>
      cases hd : decode w with
      | error r => simp [he, hw, hd] at h
      | ok j =>
        obtain rfl : j = i := by simpa [he, hw, hd] using h
        simp [hw, hd]

/-- A step that answers a next state is a clock cycle, or the execution of `nextInstr`. -/
theorem step_next_cases_nextInstr {s t : State} (h : step s = .next t) :
    (s.events = [] ∧ t = s.clockCycle)
      ∨ ∃ i, s.nextInstr = some i ∧ exec i (s.withEvents s.events.tail) = .next t := by
  rcases step_next_cases h with hcycle | ⟨e, rest, w, i, he, hw, hd, -⟩
  · exact .inl hcycle
  · have hi := nextInstr_of_event he hw hd
    exact .inr ⟨i, hi, step_of_nextInstr hi ▸ h⟩

/-! ## The shared operations and an update that they neither read nor write

`g` is an update of fields that the operation neither reads nor writes; applying it before or after the operation is the same. -/

theorem whenIdle_cases (f : State → State) (s : State) :
    (s.busy = true ∧ whenIdle f s = s.rejectCmd) ∨ (s.busy = false ∧ whenIdle f s = f s) := by
  cases h : s.busy
  · exact .inr ⟨rfl, whenIdle_idle f h⟩
  · exact .inl ⟨rfl, whenIdle_busy f h⟩

theorem outsideReset_comm {f g : State → State} {s : State} (hr : (g s).inReset = s.inReset) (hf : f (g s) = g (f s)) :
    outsideReset f (g s) = g (outsideReset f s) := by
  cases h : s.inReset
  · rw [outsideReset_out f h, outsideReset_out f (hr.trans h), hf]
  · rw [outsideReset_in f h, outsideReset_in f (hr.trans h)]

theorem driveStep_comm {g : State → State} {s : State} {n : Nat} {p : BitVec 4} (hcnt : (g s).cnt = s.cnt)
    (henter : (g s).enter p 0 = g (s.enter p 0)) (hcount : (g s).count = g s.count) :
    driveStep n p (g s) = g (driveStep n p s) := by
  simp only [driveStep, hcnt, henter, hcount, apply_ite g]

theorem waitStep_comm {f g : State → State} {s : State} {level smp : Bool} {kind : ErrKind} {i : BitVec 6}
    (hcnt : (g s).cnt = s.cnt) (hfail : (g s).failEntry kind i = g (s.failEntry kind i)) (hcount : (g s).count = g s.count)
    (hf : f (g s) = g (f s)) : waitStep level kind i f smp (g s) = g (waitStep level kind i f smp s) := by
  simp only [waitStep, hcnt, hfail, hcount, hf, apply_ite g]

/-! ## Ticks and the host's two bits -/

/-- The state with other values of the two bits that belong to the host, `ie` (R27) and `cmderr` (R30). -/
def State.withHostBits (ie cmderr : Bool) (s : State) : State :=
  { s with ie := ie, cmderr := cmderr }

theorem bitDone_withHostBits (a b : Bool) (s : State) : (s.withHostBits a b).bitDone = s.bitDone.withHostBits a b := by
  by_cases h : s.bitIdx = 39
  · rw [bitDone_last h, bitDone_last (s := s.withHostBits a b) h]
    rfl
  · rw [bitDone_next h, bitDone_next (s := s.withHostBits a b) h]
    rfl

theorem verify_withHostBits (a b : Bool) (s : State) : (s.withHostBits a b).verify = s.verify.withHostBits a b := by
  cases h : checksumGood s.shreg
  · rw [verify_bad h, verify_bad (s := s.withHostBits a b) h]
    rfl
  · rw [verify_good h, verify_good (s := s.withHostBits a b) h]
    rfl

/-- Ticks neither read nor write `ie` and `cmderr` (R27, R30). -/
theorem exec_tick_withHostBits (a b : Bool) (s : State) : ∀ i : Instr, i.isTick = true →
    exec i (s.withHostBits a b) = mapNext (State.withHostBits a b) (exec i s)
  | .tickIdle _, _ | .tickSuccess _, _ | .tickFailure _, _ | .tickUnreachable _ _, _ => rfl
  | .tickPrep _, _ => congrArg Host.Outcome.next (outsideReset_comm rfl rfl)
  | .tickStartLow _, _ | .tickStartHigh _, _ =>
    congrArg Host.Outcome.next (outsideReset_comm rfl (driveStep_comm rfl rfl rfl))
  | .tickAck1 _, _ | .tickAck2 _, _ | .tickAck3 _, _ | .tickBitLow _, _ =>
    congrArg Host.Outcome.next (outsideReset_comm rfl (waitStep_comm rfl rfl rfl rfl))
  | .tickBitHigh _, _ =>
    congrArg Host.Outcome.next (outsideReset_comm rfl (waitStep_comm rfl rfl rfl (bitDone_withHostBits a b s)))
  | .tickChecksum _, _ => congrArg Host.Outcome.next (outsideReset_comm rfl (verify_withHostBits a b s))

theorem exec_tick_keeps_hostBits {i : Instr} {s t : State} (hi : i.isTick = true) (h : exec i s = .next t) :
    t.ie = s.ie ∧ t.cmderr = s.cmderr := by
  have hcomm := exec_tick_withHostBits s.ie s.cmderr s i hi
  rw [show s.withHostBits s.ie s.cmderr = s from rfl, h] at hcomm
  have ht : t = t.withHostBits s.ie s.cmderr := Host.Outcome.next.inj hcomm
  rw [ht]
  exact ⟨rfl, rfl⟩

/-! ## Everything that happens to the host's two bits -/

@[simp] theorem rejected_withEvents (s : State) (es : List Event) (i : Instr) : rejected (s.withEvents es) i = rejected s i := by
  cases i <;> rfl

/-- A rejected command out of reset sets `cmderr` and does nothing else (R156). -/
theorem exec_of_rejected {s : State} (hr : s.inReset = false) :
    ∀ {i : Instr}, rejected s i = true → exec i s = .next s.rejectCmd
  | .cmdRsvd _, _ => congrArg Host.Outcome.next (outsideReset_out _ hr)
  | .cmdStart, hbusy | .cmdClear, hbusy =>
    congrArg Host.Outcome.next ((outsideReset_out _ hr).trans (whenIdle_busy _ hbusy))

/-- Everything an instruction can do to `ie` and `cmderr`. -/
theorem exec_hostBits_cases {i : Instr} {s t : State} (h : exec i s = .next t) :
    (t.ie = s.ie ∧ t.cmderr = s.cmderr)
      ∨ (rejected s i = true ∧ t = s.rejectCmd)
      ∨ (i = .cmdClear ∧ s.busy = false ∧ t = s.clearResult)
      ∨ (∃ data, i = .wrCtrl data ∧ t = s.writeCtrl data)
      ∨ (i = .reset ∧ t = s.resetFields) := by
  by_cases htick : i.isTick = true
  · exact .inl (exec_tick_keeps_hostBits htick h)
  cases i <;> simp only [Instr.isTick, reduceCtorEq, not_true_eq_false] at htick <;> obtain rfl := Host.Outcome.next.inj h
  case cmdStart =>
    rcases outsideReset_cases (whenIdle (State.restart Phase.prep)) s with ⟨-, h'⟩ | ⟨-, h'⟩ <;> rw [h']
    · exact .inl ⟨rfl, rfl⟩
    · rcases whenIdle_cases (State.restart Phase.prep) s with ⟨hbusy, h''⟩ | ⟨-, h''⟩ <;> rw [h'']
      · exact .inr (.inl ⟨hbusy, rfl⟩)
      · exact .inl ⟨rfl, rfl⟩
  case cmdClear =>
    rcases outsideReset_cases (whenIdle State.clearResult) s with ⟨-, h'⟩ | ⟨-, h'⟩ <;> rw [h']
    · exact .inl ⟨rfl, rfl⟩
    · rcases whenIdle_cases State.clearResult s with ⟨hbusy, h''⟩ | ⟨hidle, h''⟩ <;> rw [h'']
      · exact .inr (.inl ⟨hbusy, rfl⟩)
      · exact .inr (.inr (.inl ⟨rfl, hidle, rfl⟩))
  case cmdRsvd =>
    rcases outsideReset_cases State.rejectCmd s with ⟨-, h'⟩ | ⟨-, h'⟩ <;> rw [h']
    · exact .inl ⟨rfl, rfl⟩
    · exact .inr (.inl ⟨rfl, rfl⟩)
  case wrCtrl data =>
    rcases outsideReset_cases (State.writeCtrl data) s with ⟨-, h'⟩ | ⟨-, h'⟩ <;> rw [h']
    · exact .inl ⟨rfl, rfl⟩
    · exact .inr (.inr (.inr (.inl ⟨data, rfl, rfl⟩)))
  case shiftIn b =>
    rcases outsideReset_cases (State.shiftBit b) s with ⟨-, h'⟩ | ⟨-, h'⟩ <;> rw [h'] <;> exact .inl ⟨rfl, rfl⟩
  case reset => exact .inr (.inr (.inr (.inr ⟨rfl, rfl⟩)))
  all_goals exact .inl ⟨rfl, rfl⟩

/-- Everything a step can do to `ie` and `cmderr`. -/
theorem step_hostBits_cases {s t : State} (h : step s = .next t) :
    (t.ie = s.ie ∧ t.cmderr = s.cmderr)
      ∨ (∃ i, s.nextInstr = some i ∧ rejected s i = true ∧ t.ie = s.ie ∧ t.cmderr = true)
      ∨ (s.nextInstr = some .cmdClear ∧ s.busy = false ∧ t.ie = s.ie ∧ t.cmderr = false)
      ∨ (∃ data, s.nextInstr = some (.wrCtrl data) ∧ t.ie = data.getLsbD 0 ∧ t.cmderr = s.cmderr)
      ∨ (s.nextInstr = some .reset ∧ t.ie = false ∧ t.cmderr = false) := by
  rcases step_next_cases_nextInstr h with ⟨-, rfl⟩ | ⟨i, hi, hexec⟩
  · exact .inl ⟨rfl, rfl⟩
  · rcases exec_hostBits_cases hexec with hsame | ⟨hrej, rfl⟩ | ⟨rfl, hidle, rfl⟩ | ⟨data, rfl, rfl⟩ | ⟨rfl, rfl⟩
    · exact .inl hsame
    · exact .inr (.inl ⟨i, hi, (rejected_withEvents s _ i).symm.trans hrej, rfl, rfl⟩)
    · exact .inr (.inr (.inl ⟨hi, hidle, rfl, rfl⟩))
    · exact .inr (.inr (.inr (.inl ⟨data, hi, rfl, rfl⟩)))
    · exact .inr (.inr (.inr (.inr ⟨hi, rfl, rfl⟩)))

/-! ## What the host reads of the two bits -/

/-- STATUS bit 3 is `cmderr` (R77). -/
theorem statusWord_getLsbD_three (s : State) : s.statusWord.getLsbD 3 = s.cmderr := by
  simp [State.statusWord, boolWord]

/-- CTRL reads `ie` in bit 0 (R75). -/
theorem rdval_zero (s : State) : s.rdval 0 = if s.ie = true then 1 else 0 := by
  rw [show s.rdval 0 = boolWord s.ie from rfl]
  cases s.ie <;> rfl

/-- Settles O37: a rejected command is `rejectCmd`, and the step's cases for `cmderr` leave no other way to set or clear it. -/
theorem cmderrIsSticky : Obligations.CmderrIsSticky := by
  refine ⟨?_, ?_, fun s => ⟨rfl, statusWord_getLsbD_three s⟩⟩
  · intro s i hr hi hrej
    rw [step_of_nextInstr hi]
    exact exec_of_rejected (s := s.withEvents s.events.tail) hr ((rejected_withEvents s _ i).trans hrej)
  · intro s t h
    rcases step_hostBits_cases h with ⟨-, hsame⟩ | ⟨i, hi, hrej, -, hset⟩ | ⟨hi, hidle, -, hclr⟩ | ⟨data, -, -, hsame⟩
      | ⟨hi, -, hclr⟩
    · simp +contextual [hsame]
    · exact ⟨fun _ _ => ⟨i, hi, hrej⟩, fun _ ht => absurd ht (by simp [hset])⟩
    · exact ⟨fun _ ht => absurd ht (by simp [hclr]), fun _ _ => .inl ⟨hi, hidle⟩⟩
    · simp +contextual [hsame]
    · exact ⟨fun _ ht => absurd ht (by simp [hclr]), fun _ _ => .inr hi⟩

/-- Settles O38: the step's cases for `ie`, and ticks commute with setting it. -/
theorem interruptEnableIsTheHosts : Obligations.InterruptEnableIsTheHosts := by
  refine ⟨?_, ?_, fun s => ⟨rdval_zero s, fun hie => by simp [State.irq, hie]⟩⟩
  · intro s t h hne
    rcases step_hostBits_cases h with ⟨hsame, -⟩ | ⟨_, -, -, hsame, -⟩ | ⟨-, -, hsame, -⟩ | ⟨data, hi, hie, -⟩ | ⟨hi, hie, -⟩
    · exact absurd hsame.symm hne
    · exact absurd hsame.symm hne
    · exact absurd hsame.symm hne
    · exact .inl ⟨data, hi, hie⟩
    · exact .inr ⟨hi, hie⟩
  · intro s w b
    rw [show ({ s with ie := b } : State) = s.withHostBits b s.cmderr from rfl,
      exec_tick_withHostBits b s.cmderr s _ (decodePH_isTick w)]
    cases h : exec (decodePH w) s with
    | next t =>
      obtain ⟨-, hcmd⟩ := exec_tick_keeps_hostBits (decodePH_isTick w) h
      simp only [mapNext, State.withHostBits, ← hcmd]
    | fault f => rfl
    | refused r => rfl

/-- Settles O44: the pad outputs compare `phase` with the codes of the three drive phases. -/
theorem padFollowsThePhase : Obligations.PadFollowsThePhase := by
  intro s
  refine ⟨?_, ?_, ?_, rfl⟩
  · rintro (h | h) <;> simp [State.lineOe, State.lineO, h]
  · intro h
    simp [State.lineOe, State.lineO, h]
  · intro h₁ h₂ h₃
    simpa [State.lineOe, State.lineO] using And.intro (And.intro (And.intro h₁ h₂) h₃) h₂

end Sys2Proof.Machine

/-! Lemmas about the step of a bus access, and the proofs of the statements of 20_memory.md. -/

namespace Sys2Proof.Machine

/-! ## Bus accesses -/

/-- The word at byte offset `4 * idx` is the register `idx` (R54). -/
theorem busWord_wholeRegister (write : Bool) (idx : BitVec 3) (data : Word) :
    busWord write (4 * idx.toNat) 4 data = .next (htWord write idx data) := by
  have hlast : idx.toNat < 8 := idx.isLt
  rcases busWord_cases write (4 * idx.toNat) 4 data with ⟨hshape, -⟩ | ⟨-, -, habove, -⟩ | ⟨-, -, -, hw⟩
  · omega
  · omega
  · rw [hw, Nat.mul_div_cancel_left _ (by decide), BitVec.ofNat_toNat, BitVec.setWidth_eq]

/-- An access that is not 4 bytes at a multiple of 4 is refused by name (R54). -/
theorem busWord_otherShape {offset size : Nat} (h : size ≠ 4 ∨ offset % 4 ≠ 0) (write : Bool) (data : Word) :
    busWord write offset size data = .refused (.notWholeRegister offset size) := by
  rcases busWord_cases write offset size data with ⟨-, hw⟩ | ⟨hsize, haligned, -, -⟩ | ⟨hsize, haligned, -, -⟩
  · exact hw
  · omega
  · omega

/-- A bus access that becomes a host transaction is executed as that transaction (R9, R53). -/
theorem step_bus_of_next {s : State} {write : Bool} {offset size : Nat} {data : Word} {rest : List Event} {w : BitVec 36}
    (he : s.events = .bus write offset size data :: rest) (hw : busWord write offset size data = .next w) :
    step s = exec (decodeHT w) (s.withEvents rest) := by
  have hev : eventWord s (.bus write offset size data) = .next (.ht w) := by simp only [eventWord, hw]
  rw [step_of_nextInstr (nextInstr_of_event he hev rfl), he, List.tail_cons]

theorem step_bus_of_refused {s : State} {write : Bool} {offset size : Nat} {data : Word} {rest : List Event} {r : Refusal}
    (he : s.events = .bus write offset size data :: rest) (hw : busWord write offset size data = .refused r) :
    step s = .refused r := by
  simp only [step, he, eventWord, hw]

/-- Settles O41: the bus word of a whole register is that register's host transaction, and any other shape has none. -/
theorem onlyWholeRegisterAccesses : Obligations.OnlyWholeRegisterAccesses := by
  intro s write offset size data rest he
  constructor
  · rintro rfl idx rfl
    exact step_bus_of_next he (busWord_wholeRegister write idx data)
  · intro hshape
    exact step_bus_of_refused he (busWord_otherShape hshape write data)

end Sys2Proof.Machine

/-! The decoder on assembled host words, the data registers by their bytes, and the proofs of the statements of 30_encoding.md. -/

namespace Sys2Proof

/-! ## Host words by their fields -/

theorem htWord_and (write write' : Bool) (idx idx' : BitVec 3) (data data' : Word) :
    htWord write idx data &&& htWord write' idx' data' = htWord (write && write') (idx &&& idx') (data &&& data') := by
  have hw : BitVec.ofBool (write && write') = BitVec.ofBool write &&& BitVec.ofBool write' := by
    cases write <;> cases write' <;> rfl
  simp only [htWord, hw]
  exact BitVec.and_append.trans (congrArg (· ++ _) BitVec.and_append)

theorem htWord_inj {write write' : Bool} {idx idx' : BitVec 3} {data data' : Word} :
    htWord write idx data = htWord write' idx' data' ↔ write = write' ∧ idx = idx' ∧ data = data' := by
  constructor
  · intro h
    exact ⟨by simpa using congrArg htWrite h, by simpa using congrArg htIdx h, by simpa using congrArg htData h⟩
  · rintro ⟨rfl, rfl, rfl⟩
    rfl

/-- The HT rows with each mask and match assembled from its W, IDX and DATA (R71, R84). -/
theorem decodeHT_eq_fields (w : BitVec 36) :
    decodeHT w =
      if w = htWord true 1 0 then .cmdNop
      else if w = htWord true 1 1 then .cmdStart
      else if w = htWord true 1 2 then .cmdClear
      else if w &&& htWord true 7 0 = htWord true 1 0 then .cmdRsvd (htData w)
      else if w &&& htWord true 7 0 = htWord true 0 0 then .wrCtrl (htData w)
      else if w &&& htWord true 6 0 = htWord true 2 0 then .wrIgnored23 (htIdx w) (htData w)
      else if w &&& htWord true 4 0 = htWord true 4 0 then .wrIgnored47 (htIdx w) (htData w)
      else .rd (htIdx w) :=
  rfl

/-- The mask of WR_IGNORED_2_3 leaves out the lowest index bit. -/
theorem idx_and_six_eq_two : ∀ idx : BitVec 3, idx &&& 6 = 2 ↔ idx = 2 ∨ idx = 3 := by
  decide

/-- The mask of WR_IGNORED_4_7 keeps the highest index bit only. -/
theorem idx_and_four_eq_four : ∀ idx : BitVec 3, idx &&& 4 = 4 ↔ idx ≠ 0 ∧ idx ≠ 1 ∧ ¬ (idx = 2 ∨ idx = 3) := by
  decide

/-- The row of an HT word by its W, IDX and DATA (R84). -/
theorem decodeHT_htWord (write : Bool) (idx : BitVec 3) (data : Word) :
    decodeHT (htWord write idx data) =
      if write = false then .rd idx
      else if idx = 1 then
        if data = 0 then .cmdNop else if data = 1 then .cmdStart else if data = 2 then .cmdClear else .cmdRsvd data
      else if idx = 0 then .wrCtrl data
      else if idx = 2 ∨ idx = 3 then .wrIgnored23 idx data
      else .wrIgnored47 idx data := by
  have hseven : idx &&& 7 = idx := BitVec.and_allOnes
  simp only [decodeHT_eq_fields, htWord_and, htWord_inj, htIdx_htWord, htData_htWord, hseven, idx_and_six_eq_two,
    idx_and_four_eq_four]
  cases write
  · simp
  by_cases h₁ : idx = 1#3
  · simp [h₁]
  by_cases h₀ : idx = 0#3
  · simp [h₀]
  by_cases h₂ : idx = 2#3 ∨ idx = 3#3
  · simp [h₀, h₁, h₂]
  · simp [h₀, h₁, h₂]

end Sys2Proof

namespace Sys2Proof.Machine

/-- A write to a register from STATUS up is ignored in every state (R158). -/
theorem exec_write_ignored (s : State) {idx : BitVec 3} (data : Word) (h : 2 ≤ idx.toNat) :
    exec (decodeHT (htWord true idx data)) s = .next s := by
  have h₀ : idx ≠ 0 := by rintro rfl; exact absurd h (by decide)
  have h₁ : idx ≠ 1 := by rintro rfl; exact absurd h (by decide)
  simp only [decodeHT_htWord, h₀, h₁, reduceCtorEq, if_false]
  split <;> rfl

/-! ## The data registers by their bytes -/

theorem rdval_three (s : State) :
    s.rdval 3 = if s.ok = true then
      frameByte s.shreg 3 ++ frameByte s.shreg 2 ++ frameByte s.shreg 1 ++ frameByte s.shreg 0 else 0 :=
  rfl

theorem rdval_four (s : State) : s.rdval 4 = if s.ok = true then 0#24 ++ frameByte s.shreg 4 else 0 := by
  rw [show s.rdval 4 = s.frameHi from rfl, State.frameHi, BitVec.setWidth_eq_append (by decide)]
  rfl

theorem rdval_five (s : State) :
    s.rdval 5 = if s.ok = true then 0#16 ++ frameByte s.shreg 2 ++ frameByte s.shreg 0 else 0 := by
  rw [show s.rdval 5 = s.reading from rfl, State.reading, BitVec.setWidth_eq_append (by decide), BitVec.append_assoc]

theorem extractLsb'_append_byte {n start len : Nat} (hi : BitVec n) (lo : Byte) :
    (hi ++ lo).extractLsb' (start + 8) len = hi.extractLsb' start len := by
  rw [BitVec.extractLsb'_append_eq_of_le (Nat.le_add_left 8 start), Nat.add_sub_cancel]

/-- The lanes of a word of two bytes below a high part. -/
theorem lanes_append_two_bytes {n : Nat} (hi : BitVec n) (b₁ b₀ : Byte) :
    (hi ++ b₁ ++ b₀).extractLsb' 0 8 = b₀ ∧ (hi ++ b₁ ++ b₀).extractLsb' 8 8 = b₁
      ∧ ∀ len start, (hi ++ b₁ ++ b₀).extractLsb' (start + 8 + 8) len = hi.extractLsb' start len := by
  refine ⟨BitVec.extractLsb'_append_eq_right, ?_, fun len start => ?_⟩
  · exact (extractLsb'_append_byte _ _).trans BitVec.extractLsb'_append_eq_right
  · rw [extractLsb'_append_byte, extractLsb'_append_byte]

/-- FRAME_LO holds frame byte `k` in lane `k` (R78). -/
theorem frameLo_lanes {s : State} (h : s.ok = true) :
    (s.rdval 3).extractLsb' 0 8 = frameByte s.shreg 0 ∧ (s.rdval 3).extractLsb' 8 8 = frameByte s.shreg 1
      ∧ (s.rdval 3).extractLsb' 16 8 = frameByte s.shreg 2 ∧ (s.rdval 3).extractLsb' 24 8 = frameByte s.shreg 3 := by
  rw [rdval_three, if_pos h]
  obtain ⟨h₀, h₁, hup⟩ :=
    lanes_append_two_bytes (frameByte s.shreg 3 ++ frameByte s.shreg 2) (frameByte s.shreg 1) (frameByte s.shreg 0)
  exact ⟨h₀, h₁, (hup 8 0).trans BitVec.extractLsb'_append_eq_right, (hup 8 8).trans BitVec.extractLsb'_append_eq_left⟩

theorem frameHi_lanes {s : State} (h : s.ok = true) :
    (s.rdval 4).extractLsb' 0 8 = frameByte s.shreg 4 ∧ (s.rdval 4).extractLsb' 8 24 = 0 := by
  rw [rdval_four, if_pos h]
  exact ⟨BitVec.extractLsb'_append_eq_right, BitVec.extractLsb'_append_eq_left⟩

theorem reading_lanes {s : State} (h : s.ok = true) :
    (s.rdval 5).extractLsb' 0 8 = frameByte s.shreg 0 ∧ (s.rdval 5).extractLsb' 8 8 = frameByte s.shreg 2
      ∧ (s.rdval 5).extractLsb' 16 16 = 0 := by
  rw [rdval_five, if_pos h]
  obtain ⟨h₀, h₁, hup⟩ := lanes_append_two_bytes 0#16 (frameByte s.shreg 2) (frameByte s.shreg 0)
  exact ⟨h₀, h₁, (hup 16 0).trans BitVec.extractLsb'_zero⟩

theorem dataRegisters_of_not_ok {s : State} (h : s.ok = false) : s.rdval 3 = 0 ∧ s.rdval 4 = 0 ∧ s.rdval 5 = 0 := by
  have hok : ¬ s.ok = true := by simp [h]
  exact ⟨(rdval_three s).trans (if_neg hok), (rdval_four s).trans (if_neg hok), (rdval_five s).trans (if_neg hok)⟩

/-- Settles O31: the bytes of each data register by lane, its 0 while `ok` is 0 (so after reset), and its ignored write. -/
theorem dataRegistersByLane : Obligations.DataRegistersByLane := by
  intro s
  refine ⟨fun hok => ?_, dataRegisters_of_not_ok, ?_⟩
  · obtain ⟨hlo₀, hlo₁, hlo₂, hlo₃⟩ := frameLo_lanes hok
    obtain ⟨hhi₀, hhi⟩ := frameHi_lanes hok
    exact ⟨hlo₀, hlo₁, hlo₂, hlo₃, hhi₀, hhi, reading_lanes hok⟩
  · obtain ⟨h₃, h₄, h₅⟩ := dataRegisters_of_not_ok (s := State.reset) rfl
    refine ⟨h₃, h₄, h₅, fun idx data hidx => exec_write_ignored s data ?_⟩
    rcases hidx with rfl | rfl | rfl <;> decide

end Sys2Proof.Machine

/-! The checksum as a sum of naturals, the frame bytes of an assembled frame, and the proof of the statement of
40_frame_checksum.md. -/

namespace Sys2Proof.Machine

/-! ## The checksum as a sum of naturals -/

/-- Four bytes sum to at most 1020, so the ten bits of `sum10` lose no carry (R103). -/
theorem frameSum_toNat (shreg : BitVec 40) :
    (frameSum shreg).toNat =
      (frameByte shreg 0).toNat + (frameByte shreg 1).toNat + (frameByte shreg 2).toNat + (frameByte shreg 3).toNat := by
  have h₀ := (frameByte shreg 0).isLt
  have h₁ := (frameByte shreg 1).isLt
  have h₂ := (frameByte shreg 2).isLt
  have h₃ := (frameByte shreg 3).isLt
  simp only [frameSum, BitVec.toNat_add, BitVec.toNat_setWidth]
  omega

/-- The comparison of bytes in CHECKSUM_OK is the equation of naturals in R103. -/
theorem checksumGood_iff_sumHolds (shreg : BitVec 40) : checksumGood shreg = true ↔ Claims.sumHolds shreg := by
  rw [checksumGood, beq_iff_eq, ← BitVec.toNat_inj, BitVec.extractLsb'_toNat, frameSum_toNat, Nat.shiftRight_zero]

/-! ## The frame bytes of an assembled frame -/

theorem frameBytes_append (b₀ b₁ b₂ b₃ b₄ : Byte) :
    frameByte (b₀ ++ b₁ ++ b₂ ++ b₃ ++ b₄) 0 = b₀ ∧ frameByte (b₀ ++ b₁ ++ b₂ ++ b₃ ++ b₄) 1 = b₁
      ∧ frameByte (b₀ ++ b₁ ++ b₂ ++ b₃ ++ b₄) 2 = b₂ ∧ frameByte (b₀ ++ b₁ ++ b₂ ++ b₃ ++ b₄) 3 = b₃
      ∧ frameByte (b₀ ++ b₁ ++ b₂ ++ b₃ ++ b₄) 4 = b₄ := by
  obtain ⟨h₄, h₃, hup⟩ := lanes_append_two_bytes (b₀ ++ b₁ ++ b₂) b₃ b₄
  obtain ⟨h₂, h₁, hup'⟩ := lanes_append_two_bytes b₀ b₁ b₂
  have h₀ : (b₀ ++ b₁ ++ b₂).extractLsb' 16 8 = b₀ := (hup' 8 0).trans BitVec.extractLsb'_eq_self
  exact ⟨(hup 8 16).trans h₀, (hup 8 8).trans h₁, (hup 8 0).trans h₂, h₃, h₄⟩

/-- Settles O50: the ten-bit sum is the sum of naturals, read at the bytes the frame is assembled from. -/
theorem checksumIsTheByteSum : Obligations.ChecksumIsTheByteSum := by
  intro b₀ b₁ b₂ b₃ b₄
  obtain ⟨h₀, h₁, h₂, h₃, h₄⟩ := frameBytes_append b₀ b₁ b₂ b₃ b₄
  rw [checksumGood_iff_sumHolds, Claims.sumHolds, h₀, h₁, h₂, h₃, h₄]

end Sys2Proof.Machine

/-! Lemmas about the sequencer's ticks, and the proofs of the statements of 41_protocol_phases.md. -/

namespace Sys2Proof

/-! ## The decoder on tick words, and which instructions are ticks -/

/-- The row of a PH word by its P (R84). -/
theorem decodePH_phWord : ∀ (p : BitVec 4) (smp : Bool),
    decodePH (phWord p smp) =
      if p = 0 then .tickIdle smp else if p = 1 then .tickPrep smp else if p = 2 then .tickStartLow smp
      else if p = 3 then .tickStartHigh smp else if p = 4 then .tickAck1 smp else if p = 5 then .tickAck2 smp
      else if p = 6 then .tickAck3 smp else if p = 7 then .tickBitLow smp else if p = 8 then .tickBitHigh smp
      else if p = 9 then .tickChecksum smp else if p = 10 then .tickSuccess smp else if p = 11 then .tickFailure smp
      else .tickUnreachable p smp := by
  decide

/-- No host transaction decodes to a tick. -/
theorem decodeHT_isTick (w : BitVec 36) : (decodeHT w).isTick = false := by
  unfold decodeHT
  repeat' split
  all_goals rfl

end Sys2Proof

namespace Sys2Proof.Machine

/-- The next instruction is a tick only of a tick event, and is then the row of the phase (R72). -/
theorem nextInstr_isTick {s : State} {i : Instr} (h : s.nextInstr = some i) (hi : i.isTick = true) :
    ∃ smp, i = decodePH (phWord s.phase smp) := by
  unfold State.nextInstr at h
  cases he : s.events with
  | nil => simp [he] at h
  | cons e rest =>
    simp only [he] at h
    cases e with
    | tick smp => exact ⟨smp, (Option.some.inj h).symm⟩
    | host w =>
      obtain rfl := Option.some.inj h
      simp [decodeHT_isTick] at hi
    | rst =>
      obtain rfl := Option.some.inj h
      simp [Instr.isTick] at hi
    | bus write offset size data =>
      cases hw : busWord write offset size data with
      | fault f => simp [eventWord, hw] at h
      | refused r => simp [eventWord, hw] at h
      | next w =>
        obtain rfl : decodeHT w = i := by simpa [eventWord, hw, decode] using h
        simp [decodeHT_isTick] at hi

/-! ## Rest -/

theorem atRest_iff (s : State) : s.atRest = true ↔ s.phase = 0 ∨ s.phase = 10 ∨ s.phase = 11 := by
  simp [State.atRest, State.ended]

/-- The tick of a resting phase changes nothing (R121, R134). -/
theorem exec_tick_atRest {s : State} (h : s.atRest = true) (smp : Bool) (t : State) :
    exec (decodePH (phWord s.phase smp)) t = .next t := by
  rcases (atRest_iff s).mp h with hp | hp | hp <;> rw [hp, decodePH_phWord] <;> rfl

/-- Besides ticks, only START, CLEAR and reset write `phase`. -/
theorem exec_keeps_phase {i : Instr} {s t : State} (h : exec i s = .next t) (htick : i.isTick = false)
    (hstart : i ≠ .cmdStart) (hclear : i ≠ .cmdClear) (hreset : i ≠ .reset) : t.phase = s.phase := by
  have gate : ∀ f : State → State, (f s).phase = s.phase → (outsideReset f s).phase = s.phase := by
    intro f hf
    rcases outsideReset_cases f s with ⟨-, h'⟩ | ⟨-, h'⟩ <;> rw [h']
    exact hf
  cases i <;> simp only [Instr.isTick, reduceCtorEq, ne_eq, not_true_eq_false] at htick hstart hclear hreset <;>
    obtain rfl := Host.Outcome.next.inj h
  case cmdRsvd => exact gate _ rfl
  case wrCtrl => exact gate _ rfl
  case shiftIn => exact gate _ rfl
  all_goals rfl

/-- Settles O13: at rest the tick of the phase changes nothing, and no other event but the three named ones writes `phase`. -/
theorem restingTicksChangeNothing : Obligations.RestingTicksChangeNothing := by
  refine ⟨fun s smp => ?_, fun s hrest => ?_, fun s t hrest hstep hne => ?_⟩
  · exact ⟨rfl, rfl, rfl, decodePH_phWord 0 smp, decodePH_phWord 10 smp, decodePH_phWord 11 smp⟩
  · rcases (atRest_iff s).mp hrest with h | h | h <;> simp [State.lineOe, h]
  · rcases step_next_cases_nextInstr hstep with ⟨-, rfl⟩ | ⟨i, hi, hexec⟩
    · exact absurd rfl hne
    cases htick : i.isTick
    · by_contra hother
      simp only [hi, Option.some.injEq, not_or] at hother
      obtain ⟨hstart, hclear, hreset⟩ := hother
      have hsame := exec_keeps_phase hexec htick hstart hclear hreset
      exact hne hsame
    · obtain ⟨smp, rfl⟩ := nextInstr_isTick hi htick
      rw [exec_tick_atRest hrest] at hexec
      obtain rfl := Host.Outcome.next.inj hexec
      exact absurd rfl hne

/-! ## The start pulse -/

/-- The state `k` ticks after an accepted START (R122, R124, R125): PREP, 18000 ticks low, 30 ticks high, the release. -/
def State.startPulse (k : Nat) (s : State) : State :=
  if k = 0 then s.restart Phase.prep
  else if k ≤ 18000 then (s.restart Phase.prep).enter Phase.startLow (BitVec.ofNat 15 (k - 1))
  else if k ≤ 18030 then (s.restart Phase.prep).enter Phase.startHigh (BitVec.ofNat 15 (k - 18001))
  else (s.restart Phase.prep).enter Phase.ack1 0

theorem startPulse_zero (s : State) : s.startPulse 0 = s.restart Phase.prep :=
  rfl

theorem startPulse_low (s : State) {c : Nat} (h : c < 18000) :
    s.startPulse (c + 1) = (s.restart Phase.prep).enter Phase.startLow (BitVec.ofNat 15 c) := by
  rw [State.startPulse, if_neg (by omega), if_pos (by omega), Nat.add_sub_cancel]

theorem startPulse_high (s : State) {c : Nat} (h : c < 30) :
    s.startPulse (c + 18001) = (s.restart Phase.prep).enter Phase.startHigh (BitVec.ofNat 15 c) := by
  rw [State.startPulse, if_neg (by omega), if_neg (by omega), if_pos (by omega), Nat.add_sub_cancel]

theorem startPulse_release (s : State) : s.startPulse 18031 = (s.restart Phase.prep).enter Phase.ack1 0 := by
  rw [State.startPulse, if_neg (by decide), if_neg (by decide), if_neg (by decide)]

theorem startPulse_inReset (k : Nat) (s : State) : (s.startPulse k).inReset = s.inReset := by
  unfold State.startPulse
  repeat' split
  all_goals rfl

/-- A drive step from a count `c`: it counts on to `c + 1`, or enters the next phase after `n` ticks. -/
theorem driveStep_enter (s : State) {n c : Nat} (p q : BitVec 4) (h : c < 32767) :
    driveStep n q (s.enter p (BitVec.ofNat 15 c))
      = if c + 1 = n then s.enter q 0 else s.enter p (BitVec.ofNat 15 (c + 1)) := by
  have hc : (s.enter p (BitVec.ofNat 15 c)).cnt.toNat = c := by
    rw [State.enter_cnt, BitVec.toNat_ofNat, Nat.mod_eq_of_lt (by omega)]
  rw [driveStep, hc, BitVec.ofNat_add]
  rfl

theorem exec_tickPrep_out (smp : Bool) {s : State} (h : s.inReset = false) :
    exec (.tickPrep smp) s = .next (s.enter Phase.startLow 0) :=
  congrArg Host.Outcome.next (outsideReset_out _ h)

theorem exec_tickStartLow_out (smp : Bool) {s : State} (h : s.inReset = false) :
    exec (.tickStartLow smp) s = .next (driveStep 18000 Phase.startHigh s) :=
  congrArg Host.Outcome.next (outsideReset_out _ h)

theorem exec_tickStartHigh_out (smp : Bool) {s : State} (h : s.inReset = false) :
    exec (.tickStartHigh smp) s = .next (driveStep 30 Phase.ack1 s) :=
  congrArg Host.Outcome.next (outsideReset_out _ h)

/-- A tick moves the start pulse on by one, whatever it samples. -/
theorem exec_tick_startPulse (smp : Bool) {s : State} {k : Nat} (hr : s.inReset = false) (hk : k ≤ 18030) :
    exec (decodePH (phWord (s.startPulse k).phase smp)) (s.startPulse k) = .next (s.startPulse (k + 1)) := by
  have hr' : (s.startPulse k).inReset = false := (startPulse_inReset k s).trans hr
  rcases Nat.lt_or_ge k 1 with h₀ | h₁
  · obtain rfl : k = 0 := by omega
    rw [startPulse_low s (by decide), startPulse_zero, State.restart_phase, decodePH_phWord]
    exact exec_tickPrep_out smp hr'
  rcases Nat.lt_or_ge k 18001 with hlow | hhigh
  · obtain ⟨c, rfl⟩ := Nat.exists_eq_add_of_le' h₁
    rw [startPulse_low s (by omega)] at hr' ⊢
    rw [State.enter_phase, decodePH_phWord]
    refine (exec_tickStartLow_out smp hr').trans (congrArg Host.Outcome.next ?_)
    rw [driveStep_enter _ _ _ (by omega)]
    split
    · next hend =>
      obtain rfl : c = 17999 := by omega
      exact (startPulse_high s (by decide)).symm
    · exact (startPulse_low s (by omega)).symm
  · obtain ⟨c, rfl⟩ := Nat.exists_eq_add_of_le' hhigh
    rw [startPulse_high s (by omega)] at hr' ⊢
    rw [State.enter_phase, decodePH_phWord]
    refine (exec_tickStartHigh_out smp hr').trans (congrArg Host.Outcome.next ?_)
    rw [driveStep_enter _ _ _ (by omega)]
    split
    · next hend =>
      obtain rfl : c = 29 := by omega
      exact (startPulse_release s).symm
    · rw [show c + 18001 + 1 = c + 1 + 18001 by omega]
      exact (startPulse_high s (by omega)).symm

theorem runTicks_startPulse {s : State} (hr : s.inReset = false) (samples : List Bool) :
    ∀ k, k + samples.length ≤ 18031 →
      runTicks samples (s.startPulse k) = .next ((s.startPulse (k + samples.length)).withEvents []) := by
  induction samples with
  | nil => exact fun k _ => rfl
  | cons smp rest ih =>
    intro k hk
    rw [List.length_cons] at hk ⊢
    rw [runTicks_cons, exec_tick_startPulse smp hr (by omega), ← Nat.add_assoc, Nat.add_right_comm]
    exact ih (k + 1) (by omega)

/-- An accepted START and then ticks of the start pulse (R153). -/
theorem runStart_startPulse {s : State} (hr : s.inReset = false) (hidle : s.busy = false) {samples : List Bool}
    (h : samples.length ≤ 18031) :
    runStart samples s = .next ((s.startPulse samples.length).withEvents []) := by
  have hstart : exec .cmdStart s = .next (s.startPulse 0) :=
    congrArg Host.Outcome.next ((outsideReset_out _ hr).trans (whenIdle_idle _ hidle))
  rw [runStart_eq, decodeHT_htWord]
  change andThen (exec .cmdStart s) (runTicks samples) = _
  rw [hstart, ← Nat.zero_add samples.length]
  exact runTicks_startPulse hr samples 0 (by omega)

/-- Settles O15: the ticks are drive steps, and the pulse is `startPulse` at the number of samples. -/
theorem startPulse : Obligations.StartPulse := by
  refine ⟨fun s smp hr => ?_, fun s samples hr hidle hlen => ?_⟩
  · exact ⟨exec_tickStartLow_out smp hr, exec_tickStartHigh_out smp hr, decodePH_phWord 2 smp, decodePH_phWord 3 smp⟩
  refine ⟨_, runStart_startPulse hr hidle hlen, ?_, ?_, ?_, ?_⟩
  · intro h
    rw [h]
    exact ⟨rfl, rfl, rfl⟩
  · rintro ⟨hlo, hhi⟩
    obtain ⟨c, hc⟩ := Nat.exists_eq_add_of_le' hlo
    rw [hc, startPulse_low s (by omega)]
    refine ⟨rfl, ?_, rfl, rfl⟩
    simp only [State.withEvents_cnt, State.enter_cnt, BitVec.toNat_ofNat]
    omega
  · rintro ⟨hlo, hhi⟩
    obtain ⟨c, hc⟩ := Nat.exists_eq_add_of_le' hlo
    rw [hc, startPulse_high s (by omega)]
    refine ⟨rfl, ?_, rfl, rfl⟩
    simp only [State.withEvents_cnt, State.enter_cnt, BitVec.toNat_ofNat]
    omega
  · intro h
    rw [h, startPulse_release]
    exact ⟨rfl, rfl, rfl⟩

/-! ## The wait phases -/

/-- WAIT_STEP with the limit of 100 written out (R120), the waited level first. -/
theorem waitStep_eq (level : Bool) (kind : ErrKind) (i : BitVec 6) (f : State → State) (smp : Bool) (s : State) :
    waitStep level kind i f smp s
      = if smp = level then if s.cnt.toNat ≤ 99 then s.count else s.failEntry kind i else f s := by
  rcases waitStep_cases level kind i f smp s with ⟨hl, h⟩ | ⟨hl, hc, h⟩ | ⟨hl, hc, h⟩
  · rw [h, if_neg hl]
  · rw [h, if_pos hl, if_pos hc]
  · rw [h, if_pos hl, if_neg (by omega)]

/-- The same with the level that ends the run first. -/
theorem waitStep_eq_ends (level : Bool) (kind : ErrKind) (i : BitVec 6) (f : State → State) (smp : Bool) (s : State) :
    waitStep level kind i f smp s
      = if smp = !level then f s else if s.cnt.toNat ≤ 99 then s.count else s.failEntry kind i := by
  rw [waitStep_eq]
  cases smp <;> cases level <;> rfl

theorem failEntry_eq_failed (kind : ErrKind) (i : BitVec 6) (s : State) :
    s.failEntry kind i = Claims.failed s (errCode kind) i :=
  rfl

/-- Settles O16: each of the three ticks is a WAIT_STEP. -/
theorem handshakeTicks : Obligations.HandshakeTicks := by
  intro s smp hr
  refine ⟨?_, ?_, ?_, decodePH_phWord 4 smp, decodePH_phWord 5 smp, decodePH_phWord 6 smp⟩
  all_goals exact congrArg Host.Outcome.next ((outsideReset_out _ hr).trans (waitStep_eq_ends ..))

/-- SHIFT_IN is a shift to the left with the bit below (R102). -/
theorem shiftInBit_eq (r : BitVec 40) (b : Bool) : shiftInBit r b = r <<< 1 ||| if b = true then 1 else 0 := by
  have hshift : r <<< 1 = r.extractLsb' 0 39 ++ 0#1 := BitVec.shiftLeft_eq_concat_of_lt (by decide)
  have hbit : (if b = true then 1 else 0 : BitVec 40) = 0#39 ++ BitVec.ofBool b := by cases b <;> rfl
  have hor : (r.extractLsb' 0 39 ||| 0#39) ++ (0#1 ||| BitVec.ofBool b) = shiftInBit r b := by
    rw [BitVec.or_zero, BitVec.zero_or, shiftInBit]
  rw [hshift, hbit, ← hor]
  exact BitVec.or_append.symm

/-- The bit a high phase of `d` ticks shifts in (R100). -/
theorem shiftInBit_classifyBit (r : BitVec 40) (d : Nat) :
    shiftInBit r (classifyBit d) = r <<< 1 ||| if 30 < d then 1 else 0 := by
  simp only [shiftInBit_eq, classifyBit, decide_eq_true_eq]
  rfl

/-- The end of a bit with the threshold written out (R100, R130). -/
theorem bitDone_eq (s : State) :
    s.bitDone =
      if s.bitIdx.toNat = 39 then
        { s with phase := 9, cnt := 0, shreg := s.shreg <<< 1 ||| if 30 < s.cnt.toNat then 1 else 0 }
      else
        { s with phase := 7, cnt := 1, bitIdx := s.bitIdx + 1,
                 shreg := s.shreg <<< 1 ||| if 30 < s.cnt.toNat then 1 else 0 } := by
  simp only [← shiftInBit_classifyBit]
  by_cases h : s.bitIdx = 39
  · rw [bitDone_last h, if_pos (by rw [h]; rfl)]
    rfl
  · rw [bitDone_next h, if_neg fun hn : s.bitIdx.toNat = 39 => h (BitVec.eq_of_toNat_eq hn)]
    rfl

/-- Settles O17: both ticks are WAIT_STEPs, and the high phase ends in `bitDone`. -/
theorem bitTicks : Obligations.BitTicks := by
  intro s smp hr
  refine ⟨?_, ?_, decodePH_phWord 7 smp, decodePH_phWord 8 smp⟩
  · exact congrArg Host.Outcome.next ((outsideReset_out _ hr).trans (waitStep_eq_ends ..))
  · rw [← bitDone_eq]
    exact congrArg Host.Outcome.next ((outsideReset_out _ hr).trans (waitStep_eq ..))

/-! ## The checksum tick -/

theorem exec_tickChecksum_out (smp : Bool) {s : State} (h : s.inReset = false) :
    exec (.tickChecksum smp) s = .next s.verify :=
  congrArg Host.Outcome.next (outsideReset_out _ h)

/-- FRAME_HI is the checksum byte as a number (R79). -/
theorem rdval_four_toNat {s : State} (h : s.ok = true) : (s.rdval 4).toNat = (frameByte s.shreg 4).toNat := by
  rw [rdval_four, if_pos h, BitVec.toNat_append]
  simp

/-- READING holds the temperature byte above the humidity byte (R80). -/
theorem rdval_five_toNat {s : State} (h : s.ok = true) :
    (s.rdval 5).toNat = (frameByte s.shreg 2).toNat * 256 + (frameByte s.shreg 0).toNat := by
  rw [rdval_five, if_pos h, BitVec.toNat_append, BitVec.toNat_append, BitVec.toNat_ofNat, Nat.zero_mod, Nat.zero_shiftLeft,
    Nat.zero_or, ← Nat.shiftLeft_add_eq_or_of_lt (frameByte s.shreg 0).isLt, Nat.shiftLeft_eq]

/-- Settles O19: `verify` is SUCCESS_ENTRY or failure entry by the checksum of R103. -/
theorem checksumTick : Obligations.ChecksumTick := by
  intro s smp hr
  rw [exec_tickChecksum_out smp hr]
  refine ⟨fun hsum => ?_, fun hsum => ?_, decodePH_phWord 9 smp⟩
  · rw [verify_good ((checksumGood_iff_sumHolds _).mpr hsum)]
    exact ⟨s.successEntry, rfl, rfl, rfl, rfl, Bool.and_true _, rdval_three _, rdval_four_toNat rfl, rdval_five_toNat rfl⟩
  · have hbad : checksumGood s.shreg = false := Bool.eq_false_iff.mpr (mt (checksumGood_iff_sumHolds _).mp hsum)
    rw [verify_bad hbad]
    rfl

/-! ## The sample -/

theorem isWaitPhase_iff : ∀ p : BitVec 4, 4 ≤ p.toNat ∧ p.toNat ≤ 8 ↔ p = 4 ∨ p = 5 ∨ p = 6 ∨ p = 7 ∨ p = 8 := by
  decide

/-- Outside the wait phases a tick's row does nothing with its sample. -/
theorem exec_tick_ignores_sample {p : BitVec 4} (h : ¬ (4 ≤ p.toNat ∧ p.toNat ≤ 8)) (smp smp' : Bool) (s : State) :
    exec (decodePH (phWord p smp)) s = exec (decodePH (phWord p smp')) s := by
  simp only [isWaitPhase_iff, not_or] at h
  obtain ⟨h₄, h₅, h₆, h₇, h₈⟩ := h
  simp only [decodePH_phWord, h₄, h₅, h₆, h₇, h₈, if_false]
  split_ifs <;> rfl

/-- Settles O22: elsewhere the row ignores its sample; in a wait phase entered after reset one sample counts and the other
leaves the phase. -/
theorem sampleReadOnlyInWaitPhases : Obligations.SampleReadOnlyInWaitPhases := by
  refine ⟨fun s rest hp => ?_, fun p hlo hhi => ?_⟩
  · exact exec_tick_ignores_sample hp true false (s.withEvents rest)
  · refine ⟨{ State.reset with phase := p }, rfl, fun h => ?_⟩
    rcases (isWaitPhase_iff p).mp ⟨hlo, hhi⟩ with rfl | rfl | rfl | rfl | rfl <;>
      exact absurd (congrArg State.phase (Host.Outcome.next.inj h)) (by decide)

end Sys2Proof.Machine

/-! The registers' read values by their fields, the host's commands, and the proofs of the statements of
42_host_interface.md. -/

namespace Sys2Proof.Machine

/-! ## The read values by field -/

/-- CTRL holds `ie` below 31 zeros (R75). -/
theorem rdval_zero_fields (s : State) : s.rdval 0 = 0#31 ++ BitVec.ofBool s.ie := by
  rw [show s.rdval 0 = boolWord s.ie from rfl, boolWord, BitVec.setWidth_eq_append (by decide)]
  rfl

/-- STATUS's formula names the lowest field first, its layout the highest. -/
theorem or_reverse (a b c d e f g : Word) :
    a ||| b ||| c ||| d ||| e ||| f ||| g = g ||| f ||| e ||| d ||| c ||| b ||| a := by
  ac_rfl

/-- STATUS by R77's layout: the shifted fields of its formula are the appended ones. -/
theorem rdval_two (s : State) :
    s.rdval 2 = 0#12 ++ s.phase ++ 0#2 ++ s.errbit ++ s.errcode ++ BitVec.ofBool s.cmderr ++ BitVec.ofBool s.ok
      ++ BitVec.ofBool s.done ++ BitVec.ofBool s.busy := by
  change s.statusWord = _
  refine Eq.trans ?_ (BitVec.setWidth_eq _)
  simp only [BitVec.setWidth_append_eq_shiftLeft_setWidth_or, BitVec.shiftLeft_or_distrib]
  simp only [← BitVec.shiftLeft_add, Nat.reduceAdd, BitVec.setWidth_zero, BitVec.zero_shiftLeft, BitVec.zero_or,
    BitVec.or_zero]
  exact or_reverse ..

/-- Settles O30: CMD and the unmapped indices read 0, and each other register is its fields. -/
theorem readValuesByField : Obligations.ReadValuesByField := by
  intro s
  exact ⟨rdval_zero_fields s, rfl, rdval_two s, rdval_three s, rdval_four s, rdval_five s, rfl, rfl⟩

/-! ## The host's writes -/

theorem exec_wrCtrl_out (data : Word) {s : State} (h : s.inReset = false) :
    exec (.wrCtrl data) s = .next (s.writeCtrl data) :=
  congrArg Host.Outcome.next (outsideReset_out _ h)

/-- CTRL reads bit 0 of the word last written to it (R75, R151). -/
theorem rdval_zero_writeCtrl (data : Word) (s : State) : (s.writeCtrl data).rdval 0 = data &&& 1 :=
  (BitVec.and_one_eq_setWidth_ofBool_getLsbD).symm

/-- Settles O32: out of reset the write is `writeCtrl`, whose result `irq` and CTRL follow. -/
theorem ctrlWriteSetsIe : Obligations.CtrlWriteSetsIe := by
  intro s data hr
  exact ⟨s.writeCtrl data, exec_wrCtrl_out data hr, rfl, rdval_zero_writeCtrl data s, rfl, rfl, decodeHT_htWord true 0 data⟩

/-- Settles O33: NOP and the ignored writes mean the identity, and from STATUS up a write decodes to no other row. -/
theorem nopAndIgnoredWritesChangeNothing : Obligations.NopAndIgnoredWritesChangeNothing := by
  intro s
  exact ⟨rfl, decodeHT_htWord true 1 0, fun _ _ => ⟨rfl, rfl⟩, fun _ data hidx => exec_write_ignored s data hidx⟩

/-! ## The commands -/

theorem exec_cmdStart_idle {s : State} (hr : s.inReset = false) (hidle : s.busy = false) :
    exec .cmdStart s = .next (s.restart Phase.prep) :=
  congrArg Host.Outcome.next ((outsideReset_out _ hr).trans (whenIdle_idle _ hidle))

theorem exec_cmdClear_idle {s : State} (hr : s.inReset = false) (hidle : s.busy = false) :
    exec .cmdClear s = .next s.clearResult :=
  congrArg Host.Outcome.next ((outsideReset_out _ hr).trans (whenIdle_idle _ hidle))

/-- `irq` falls where the old result is discarded (R153, R178). -/
theorem irq_restart (p : BitVec 4) (s : State) : (s.restart p).irq = false :=
  Bool.and_false s.ie

/-- Settles O34: an accepted START is `restart` into PREP, a busy phase, and a START while busy is a rejected command. -/
theorem startCommand : Obligations.StartCommand := by
  intro s hr
  refine ⟨fun hidle => ?_, fun hbusy => exec_of_rejected hr hbusy, decodeHT_htWord true 1 1⟩
  exact ⟨s.restart Phase.prep, exec_cmdStart_idle hr hidle, rfl, rfl, irq_restart _ s⟩

/-- Settles O35: an accepted CLEAR is `clearResult`, and a CLEAR while busy is a rejected command. -/
theorem clearCommand : Obligations.ClearCommand := by
  intro s hr
  exact ⟨exec_cmdClear_idle hr, fun hbusy => exec_of_rejected hr hbusy, decodeHT_htWord true 1 2⟩

/-- Settles O36: the decoder compares the whole word, and a reserved command is rejected in every phase. -/
theorem reservedCommandsSetCmderr : Obligations.ReservedCommandsSetCmderr := by
  intro s data hr h₀ h₁ h₂
  refine ⟨?_, exec_of_rejected hr rfl⟩
  simp only [decodeHT_htWord, h₀, h₁, h₂, reduceCtorEq, if_false, if_true]

end Sys2Proof.Machine

/-! What can end a transaction, wait phases over a run of samples, and the proofs of the statements of 60_exceptions.md. -/

namespace Sys2Proof.Machine

/-! ## Operations that end nothing -/

/-- `t` differs from `s` neither in `done` nor by an entry to FAILURE. -/
def endsNothing (s t : State) : Prop :=
  t.done = s.done ∧ (t.phase = 11 → s.phase = 11)

theorem endsNothing_refl (s : State) : endsNothing s s :=
  ⟨rfl, id⟩

theorem endsNothing_of_phase_ne {s t : State} (hdone : t.done = s.done) (hphase : t.phase ≠ 11) : endsNothing s t :=
  ⟨hdone, fun h => absurd h hphase⟩

theorem endsNothing_enter {p : BitVec 4} (hp : p ≠ 11) (c : BitVec 15) (s : State) : endsNothing s (s.enter p c) :=
  endsNothing_of_phase_ne rfl hp

theorem endsNothing_driveStep (n : Nat) {p : BitVec 4} (hp : p ≠ 11) (s : State) : endsNothing s (driveStep n p s) := by
  rcases driveStep_cases n p s with ⟨-, h⟩ | ⟨-, h⟩ <;> rw [h]
  · exact endsNothing_enter hp 0 s
  · exact endsNothing_refl s

theorem endsNothing_firstBit (s : State) : endsNothing s s.firstBit :=
  endsNothing_of_phase_ne rfl (by decide : Phase.bitLow ≠ 11)

theorem endsNothing_bitDone (s : State) : endsNothing s s.bitDone := by
  by_cases h : s.bitIdx = 39
  · rw [bitDone_last h]
    exact endsNothing_of_phase_ne rfl (by decide : Phase.checksum ≠ 11)
  · rw [bitDone_next h]
    exact endsNothing_of_phase_ne rfl (by decide : Phase.bitLow ≠ 11)

/-! ## Ticks in reset and in the wait phases -/

/-- In reset a tick that answers a next state answers the same state (R190). -/
theorem exec_tick_inReset {i : Instr} {s t : State} (hr : s.inReset = true) (hi : i.isTick = true)
    (h : exec i s = .next t) : t = s := by
  cases i <;> simp only [Instr.isTick, reduceCtorEq] at hi
  case tickUnreachable => exact nomatch h
  case tickIdle | tickSuccess | tickFailure => exact (Host.Outcome.next.inj h).symm
  all_goals exact (Host.Outcome.next.inj h).symm.trans (outsideReset_in _ hr)

/-- The tick of a wait phase is a WAIT_STEP with the level, code and index of `waits`; leaving the wait ends nothing. -/
theorem exec_tick_waits {s : State} {level : Bool} {code : BitVec 4} {i : BitVec 6} (hr : s.inReset = false)
    (hw : Claims.waits s level code i) (smp : Bool) :
    ∃ f : State → State, endsNothing s (f s)
      ∧ exec (decodePH (phWord s.phase smp)) s
        = .next (if smp = level then if s.cnt.toNat ≤ 99 then s.count else Claims.failed s code i else f s) := by
  have wait (kind : ErrKind) (f : State → State) : outsideReset (waitStep level kind i f smp) s
      = if smp = level then if s.cnt.toNat ≤ 99 then s.count else Claims.failed s (errCode kind) i else f s :=
    (outsideReset_out _ hr).trans (waitStep_eq ..)
  obtain ⟨hp, rfl, rfl, rfl⟩ | ⟨hp, rfl, rfl, rfl⟩ | ⟨hp, rfl, rfl, rfl⟩ | ⟨hp, rfl, rfl, rfl⟩ | ⟨hp, rfl, rfl, rfl⟩ := hw
  all_goals rw [hp, decodePH_phWord]
  · exact ⟨_, endsNothing_enter (by decide) 1 s, congrArg Host.Outcome.next (wait .noResponse _)⟩
  · exact ⟨_, endsNothing_enter (by decide) 1 s, congrArg Host.Outcome.next (wait .responseTimeout1 _)⟩
  · exact ⟨_, endsNothing_firstBit s, congrArg Host.Outcome.next (wait .responseTimeout2 _)⟩
  · exact ⟨_, endsNothing_enter (by decide) 1 s, congrArg Host.Outcome.next (wait .bitTimeoutRising _)⟩
  · exact ⟨_, endsNothing_bitDone s, congrArg Host.Outcome.next (wait .bitTimeoutHigh _)⟩

/-- A sample at the waited level counts, or fails once the run is full. -/
theorem exec_tick_waits_same {s : State} {level : Bool} {code : BitVec 4} {i : BitVec 6} (hr : s.inReset = false)
    (hw : Claims.waits s level code i) :
    exec (decodePH (phWord s.phase level)) s
      = .next (if s.cnt.toNat ≤ 99 then s.count else Claims.failed s code i) := by
  obtain ⟨f, -, h⟩ := exec_tick_waits hr hw level
  rw [h, if_pos rfl]

/-! ## A run of samples at the waited level -/

/-- The phase stays while the run is at most 100 samples long. -/
theorem runTicks_waits_stays {level : Bool} {code : BitVec 4} {i : BitVec 6} (n : Nat) :
    ∀ {s : State}, s.inReset = false → Claims.waits s level code i → s.cnt.toNat + n ≤ 100 →
      ∃ t, runTicks (List.replicate n level) s = .next t ∧ t.phase = s.phase ∧ t.cnt.toNat = s.cnt.toNat + n := by
  induction n with
  | zero => exact fun _ _ _ => ⟨_, rfl, rfl, rfl⟩
  | succ n ih =>
    intro s hr hw hn
    have hcount : s.count.cnt.toNat = s.cnt.toNat + 1 := count_toNat (by omega)
    obtain ⟨t, ht, hphase, hcnt⟩ := ih (s := s.count) hr hw (by omega)
    refine ⟨t, ?_, hphase, by omega⟩
    rw [List.replicate_succ, runTicks_cons, exec_tick_waits_same hr hw, if_pos (by omega)]
    exact ht

/-- The phase fails with sample 101 of the run. -/
theorem runTicks_waits_fails {level : Bool} {code : BitVec 4} {i : BitVec 6} (n : Nat) :
    ∀ {s : State}, s.inReset = false → Claims.waits s level code i → s.cnt.toNat ≤ 100 → s.cnt.toNat + n = 101 →
      runTicks (List.replicate n level) s = .next ((Claims.failed s code i).withEvents []) := by
  induction n with
  | zero => omega
  | succ n ih =>
    intro s hr hw hle hn
    rw [List.replicate_succ, runTicks_cons, exec_tick_waits_same hr hw]
    by_cases hc : s.cnt.toNat ≤ 99
    · have hcount : s.count.cnt.toNat = s.cnt.toNat + 1 := count_toNat (by omega)
      rw [if_pos hc]
      exact ih (s := s.count) hr hw (by omega) (by omega)
    · obtain rfl : n = 0 := by omega
      rw [if_neg hc]
      rfl

/-- After a START and the start pulse the samples that follow are run from ACK1 with a count of 0 (R125). -/
theorem runStart_ack1 {s : State} (hr : s.inReset = false) (hidle : s.busy = false) {drive : List Bool}
    (hlen : drive.length = 18031) :
    ∃ r : State, r.inReset = false ∧ r.phase = 4 ∧ r.cnt = 0
      ∧ ∀ samples, runStart (drive ++ samples) s = runTicks samples r := by
  refine ⟨((s.restart Phase.prep).enter Phase.ack1 0).withEvents [], hr, rfl, rfl, fun samples => ?_⟩
  calc
    runStart (drive ++ samples) s = andThen (runStart drive s) (runTicks samples) := by
      rw [runStart_eq, runStart_eq, andThen_assoc]
      exact congrArg _ (funext (runTicks_append drive samples))
    _ = _ := by
      rw [runStart_startPulse hr hidle hlen.le, hlen, startPulse_release]
      rfl

/-- Settles O18: induction on the run of samples, in each wait phase and in ACK1 as the start pulse enters it. -/
theorem runOf101TimesOut : Obligations.RunOf101TimesOut := by
  refine ⟨fun s level code i n hr hw hcnt => ?_, fun s drive hr hidle hlen => ?_⟩
  · exact ⟨runTicks_waits_stays n hr hw, runTicks_waits_fails n hr hw (by omega)⟩
  · obtain ⟨r, hr', hphase, hcnt, hrun⟩ := runStart_ack1 hr hidle hlen
    have hw : Claims.waits r true 1 0 := .inl ⟨hphase, rfl, rfl, rfl⟩
    obtain ⟨t, ht, htphase, -⟩ := runTicks_waits_stays 100 hr' hw (by simp [hcnt])
    have hfail := runTicks_waits_fails 101 hr' hw (by simp [hcnt]) (by simp [hcnt])
    have hbusy : t.busy = true := by simp [busy_iff, htphase, hphase]
    exact ⟨t, _, (hrun _).trans ht, hbusy, (hrun _).trans hfail, rfl, rfl, rfl, rfl, rfl⟩

/-! ## Everything that can end a transaction or discard its result -/

/-- A tick with sample `smp` fails in `s`, with this code and index: a full run in a wait phase (R171 to R175) or a frame whose
checksum does not hold (R176). -/
def tickFails (s : State) (smp : Bool) (code : BitVec 4) (i : BitVec 6) : Prop :=
  Claims.waits s smp code i ∧ 100 ≤ s.cnt.toNat ∨ s.phase = 9 ∧ code = 6 ∧ i = 0 ∧ ¬ Claims.sumHolds s.shreg

/-- The phases that can fail are the wait phases and CHECKSUM. -/
theorem tickFails_phase {s : State} {smp : Bool} {code : BitVec 4} {i : BitVec 6} (h : tickFails s smp code i) :
    s.phase = 4 ∨ s.phase = 5 ∨ s.phase = 6 ∨ s.phase = 7 ∨ s.phase = 8 ∨ s.phase = 9 := by
  obtain ⟨⟨h, -⟩ | ⟨h, -⟩ | ⟨h, -⟩ | ⟨h, -⟩ | ⟨h, -⟩, -⟩ | ⟨h, -⟩ := h <;> simp [h]

theorem phase_cases : ∀ p : BitVec 4, (p = 0 ∨ p = 10 ∨ p = 11) ∨ p = 1 ∨ p = 2 ∨ p = 3
    ∨ (4 ≤ p.toNat ∧ p.toNat ≤ 8) ∨ p = 9 ∨ 12 ≤ p.toNat := by
  decide

theorem exists_waits {s : State} (h : 4 ≤ s.phase.toNat ∧ s.phase.toNat ≤ 8) :
    ∃ level code i, Claims.waits s level code i := by
  rcases (isWaitPhase_iff _).mp h with h | h | h | h | h
  · exact ⟨_, _, _, .inl ⟨h, rfl, rfl, rfl⟩⟩
  · exact ⟨_, _, _, .inr (.inl ⟨h, rfl, rfl, rfl⟩)⟩
  · exact ⟨_, _, _, .inr (.inr (.inl ⟨h, rfl, rfl, rfl⟩))⟩
  · exact ⟨_, _, _, .inr (.inr (.inr (.inl ⟨h, rfl, rfl, rfl⟩)))⟩
  · exact ⟨_, _, _, .inr (.inr (.inr (.inr ⟨h, rfl, rfl, rfl⟩)))⟩

theorem decodePH_unreachable : ∀ (p : BitVec 4) (smp : Bool), 12 ≤ p.toNat →
    decodePH (phWord p smp) = .tickUnreachable p smp := by
  decide

/-- Everything a tick can do to `done`, and every way it enters FAILURE. -/
theorem exec_tick_end_cases {s t : State} {smp : Bool} (h : exec (decodePH (phWord s.phase smp)) s = .next t) :
    endsNothing s t ∨ (s.phase = 9 ∧ t = s.successEntry)
      ∨ ∃ code i, tickFails s smp code i ∧ t = Claims.failed s code i := by
  cases hr : s.inReset
  case true =>
    rw [exec_tick_inReset hr (decodePH_isTick _) h]
    exact .inl (endsNothing_refl s)
  rcases phase_cases s.phase with hp | hp | hp | hp | hp | hp | hp
  · rw [exec_tick_atRest ((atRest_iff s).mpr hp)] at h
    obtain rfl := Host.Outcome.next.inj h
    exact .inl (endsNothing_refl s)
  · rw [hp, show decodePH (phWord 1 smp) = .tickPrep smp from decodePH_phWord 1 smp, exec_tickPrep_out smp hr] at h
    obtain rfl := Host.Outcome.next.inj h
    exact .inl (endsNothing_enter (by decide) 0 s)
  · rw [hp, show decodePH (phWord 2 smp) = .tickStartLow smp from decodePH_phWord 2 smp, exec_tickStartLow_out smp hr] at h
    obtain rfl := Host.Outcome.next.inj h
    exact .inl (endsNothing_driveStep _ (by decide) s)
  · rw [hp, show decodePH (phWord 3 smp) = .tickStartHigh smp from decodePH_phWord 3 smp, exec_tickStartHigh_out smp hr] at h
    obtain rfl := Host.Outcome.next.inj h
    exact .inl (endsNothing_driveStep _ (by decide) s)
  · obtain ⟨level, code, i, hw⟩ := exists_waits hp
    obtain ⟨f, hends, hexec⟩ := exec_tick_waits hr hw smp
    obtain rfl := Host.Outcome.next.inj (hexec.symm.trans h)
    by_cases hl : smp = level
    · subst hl
      rw [if_pos rfl]
      by_cases hc : s.cnt.toNat ≤ 99
      · rw [if_pos hc]
        exact .inl (endsNothing_refl s)
      · rw [if_neg hc]
        exact .inr (.inr ⟨code, i, .inl ⟨hw, by omega⟩, rfl⟩)
    · rw [if_neg hl]
      exact .inl hends
  · rw [hp, show decodePH (phWord 9 smp) = .tickChecksum smp from decodePH_phWord 9 smp, exec_tickChecksum_out smp hr] at h
    obtain rfl := Host.Outcome.next.inj h
    cases hsum : checksumGood s.shreg
    · have hbad : ¬ Claims.sumHolds s.shreg := by simp [← checksumGood_iff_sumHolds, hsum]
      exact .inr (.inr ⟨6, 0, .inr ⟨hp, rfl, rfl, hbad⟩, verify_bad hsum⟩)
    · exact .inr (.inl ⟨hp, verify_good hsum⟩)
  · rw [decodePH_unreachable _ _ hp] at h
    exact nomatch h

/-- Everything the other instructions can do to `done` and `phase`: only an accepted START or CLEAR and reset write them. -/
theorem exec_other_end_cases {i : Instr} {s t : State} (hi : i.isTick = false) (h : exec i s = .next t) :
    (t.done = s.done ∧ t.phase = s.phase)
      ∨ ((i = .cmdStart ∨ i = .cmdClear) ∧ s.busy = false ∨ i = .reset) ∧ t.done = false ∧ t.phase ≠ 11 := by
  have gate : ∀ f : State → State, (f s).done = s.done ∧ (f s).phase = s.phase →
      (outsideReset f s).done = s.done ∧ (outsideReset f s).phase = s.phase := by
    intro f hf
    rcases outsideReset_cases f s with ⟨-, h'⟩ | ⟨-, h'⟩ <;> rw [h']
    · exact ⟨rfl, rfl⟩
    · exact hf
  have idle : ∀ f : State → State, outsideReset (whenIdle f) s = f s ∧ s.busy = false
      ∨ (outsideReset (whenIdle f) s).done = s.done ∧ (outsideReset (whenIdle f) s).phase = s.phase := by
    intro f
    rcases whenIdle_cases f s with ⟨-, h'⟩ | ⟨hidle, h'⟩
    · exact .inr (gate _ (by rw [h']; exact ⟨rfl, rfl⟩))
    · rcases outsideReset_cases (whenIdle f) s with ⟨-, h''⟩ | ⟨-, h''⟩ <;> rw [h'']
      · exact .inr ⟨rfl, rfl⟩
      · exact .inl ⟨h', hidle⟩
  cases i <;> simp only [Instr.isTick, reduceCtorEq] at hi <;> obtain rfl := Host.Outcome.next.inj h
  case cmdStart =>
    rcases idle (State.restart Phase.prep) with ⟨h', hidle⟩ | hsame
    · rw [h']
      exact .inr ⟨.inl ⟨.inl rfl, hidle⟩, rfl, (by decide : Phase.prep ≠ 11)⟩
    · exact .inl hsame
  case cmdClear =>
    rcases idle State.clearResult with ⟨h', hidle⟩ | hsame
    · rw [h']
      exact .inr ⟨.inl ⟨.inr rfl, hidle⟩, rfl, (by decide : Phase.idle ≠ 11)⟩
    · exact .inl hsame
  case reset => exact .inr ⟨.inr rfl, rfl, (by decide : Phase.idle ≠ 11)⟩
  case cmdRsvd => exact .inl (gate _ ⟨rfl, rfl⟩)
  case wrCtrl => exact .inl (gate _ ⟨rfl, rfl⟩)
  case shiftIn => exact .inl (gate _ ⟨rfl, rfl⟩)
  all_goals exact .inl ⟨rfl, rfl⟩

/-- A pending event is a tick, executed as the row of the phase, or is executed as an instruction that is no tick. -/
theorem event_tick_or_other {s : State} {e : Event} {w : EventWord} {i : Instr} (hw : eventWord s e = .next w)
    (hd : decode w = .ok i) : (∃ smp, e = .tick smp ∧ i = decodePH (phWord s.phase smp)) ∨ i.isTick = false := by
  cases e with
  | tick smp =>
    obtain rfl := Host.Outcome.next.inj hw
    exact .inl ⟨smp, rfl, (Except.ok.inj hd).symm⟩
  | host v =>
    obtain rfl := Host.Outcome.next.inj hw
    obtain rfl := Except.ok.inj hd
    exact .inr (decodeHT_isTick v)
  | rst =>
    obtain rfl := Host.Outcome.next.inj hw
    obtain rfl : Instr.reset = i := Except.ok.inj hd
    exact .inr rfl
  | bus write offset size data =>
    cases hb : busWord write offset size data with
    | fault f => simp [eventWord, hb] at hw
    | refused r => simp [eventWord, hb] at hw
    | next v =>
      obtain rfl : EventWord.ht v = w := by simpa [eventWord, hb] using hw
      obtain rfl := Except.ok.inj hd
      exact .inr (decodeHT_isTick v)

/-- Everything a step can do to `done`, and every way it enters FAILURE. -/
theorem step_end_cases {s t : State} (h : step s = .next t) :
    endsNothing s t
      ∨ (((s.nextInstr = some .cmdStart ∨ s.nextInstr = some .cmdClear) ∧ s.busy = false ∨ s.nextInstr = some .reset)
          ∧ t.done = false ∧ t.phase ≠ 11)
      ∨ ∃ smp rest, s.events = .tick smp :: rest
          ∧ ((s.phase = 9 ∧ t = s.successEntry.withEvents rest)
            ∨ ∃ code i, tickFails s smp code i ∧ t = (Claims.failed s code i).withEvents rest) := by
  rcases step_next_cases h with ⟨-, rfl⟩ | ⟨e, rest, w, i, he, hw, hd, hexec⟩
  · exact .inl ⟨rfl, id⟩
  have hi := nextInstr_of_event he hw hd
  rcases event_tick_or_other hw hd with ⟨smp, rfl, rfl⟩ | hother
  · rcases exec_tick_end_cases (s := s.withEvents rest) hexec with hends | ⟨hp, rfl⟩ | ⟨code, i, hfails, rfl⟩
    · exact .inl hends
    · exact .inr (.inr ⟨smp, rest, he, .inl ⟨hp, rfl⟩⟩)
    · exact .inr (.inr ⟨smp, rest, he, .inr ⟨code, i, hfails, rfl⟩⟩)
  · rcases exec_other_end_cases hother hexec with ⟨hdone, hphase⟩ | ⟨⟨hcmd, hidle⟩ | rfl, hend⟩
    · exact .inl ⟨hdone, fun h11 => hphase.symm.trans h11⟩
    · exact .inr (.inl ⟨.inl ⟨by simpa [hi] using hcmd, hidle⟩, hend⟩)
    · exact .inr (.inl ⟨.inr hi, hend⟩)

/-- Settles O20: of everything a step can do, only a failing tick leads into FAILURE from another phase. -/
theorem failureEntryRecordsTheCause : Obligations.FailureEntryRecordsTheCause := by
  intro s t h hne h11
  rcases step_end_cases h with ⟨-, hphase⟩ | ⟨-, -, hphase⟩ | ⟨smp, rest, he, ⟨-, rfl⟩ | ⟨code, i, hfails, rfl⟩⟩
  · exact absurd (hphase h11) hne
  · exact absurd h11 hphase
  · exact absurd h11 (by decide : Phase.success ≠ 11)
  · have hpad : s.lineOe = false := by
      rcases tickFails_phase hfails with hp | hp | hp | hp | hp | hp <;> simp [State.lineOe, hp]
    exact ⟨smp, rest, code, i, he, hfails, rfl, rfl, rfl, hpad, rfl, Bool.and_true _⟩

/-! ## The interrupt -/

theorem irq_iff (s : State) : s.irq = true ↔ s.ie = true ∧ s.done = true := by
  simp [State.irq]

/-- A step that ends a transaction is a tick of a running one; it sets `done` and keeps `ie` (R133, R180). -/
theorem tick_end_flags {s t : State} {smp : Bool} {rest : List Event}
    (h : (s.phase = 9 ∧ t = s.successEntry.withEvents rest)
      ∨ ∃ code i, tickFails s smp code i ∧ t = (Claims.failed s code i).withEvents rest) :
    t.done = true ∧ t.ie = s.ie ∧ s.ended = false ∧ t.ended = true := by
  rcases h with ⟨hp, rfl⟩ | ⟨code, i, hfails, rfl⟩
  · exact ⟨rfl, rfl, by simp [State.ended, hp], rfl⟩
  · have hrun : s.ended = false := by
      rcases tickFails_phase hfails with hp | hp | hp | hp | hp | hp <;> simp [State.ended, hp]
    exact ⟨rfl, rfl, hrun, rfl⟩

/-- Settles O45: `done` moves as `step_end_cases` says, and a step that leaves it alone moves `irq` only with `ie`. -/
theorem interruptIsALevel : Obligations.InterruptIsALevel := by
  refine ⟨irq_iff, fun s t h => ?_⟩
  obtain ⟨hwrites, -⟩ := interruptEnableIsTheHosts
  rcases step_end_cases h with ⟨hdone, -⟩ | ⟨hcmd, hdone, -⟩ | ⟨smp, rest, he, hend⟩
  · refine ⟨fun hlo hhi => ?_, fun hhi hlo => ?_⟩
    · obtain ⟨hie', hdone'⟩ := (irq_iff t).mp hhi
      have hset : s.done = true := hdone.symm.trans hdone'
      have hie : s.ie = false := by simpa [State.irq, hset] using hlo
      rcases hwrites s t h (by simp [hie, hie']) with ⟨data, hi, hbit⟩ | ⟨-, hclr⟩
      · exact .inr ⟨hset, data, hi, hbit.symm.trans hie'⟩
      · exact absurd (hie'.symm.trans hclr) (by decide)
    · obtain ⟨hie, hset⟩ := (irq_iff s).mp hhi
      have hie' : t.ie = false := by simpa [State.irq, hdone, hset] using hlo
      rcases hwrites s t h (by simp [hie, hie']) with ⟨data, hi, hbit⟩ | ⟨hreset, -⟩
      · exact .inr (.inl ⟨data, hi, hbit.symm.trans hie'⟩)
      · exact .inr (.inr hreset)
  · refine ⟨fun _ hhi => ?_, fun _ _ => ?_⟩
    · obtain ⟨-, hdone'⟩ := (irq_iff t).mp hhi
      exact absurd (hdone'.symm.trans hdone) (by decide)
    · exact hcmd.imp_right .inr
  · obtain ⟨hdone, hsame, hrun, hended⟩ := tick_end_flags hend
    refine ⟨fun _ hhi => ?_, fun hhi hlo => ?_⟩
    · obtain ⟨hie', -⟩ := (irq_iff t).mp hhi
      exact .inl ⟨hsame.symm.trans hie', hrun, hended, smp, rest, he⟩
    · obtain ⟨hie, -⟩ := (irq_iff s).mp hhi
      simp [State.irq, hdone, hsame, hie] at hlo

end Sys2Proof.Machine

/-! The decoder and the encoder as each other's inverse, and the proofs of the statements of 30_encoding.md on words. -/

namespace Sys2Proof

/-! ## Operand ranges -/

theorem wellFormed_cmdRsvd (data : Word) : (Instr.cmdRsvd data).wellFormed = true ↔ data ≠ 0 ∧ data ≠ 1 ∧ data ≠ 2 := by
  simp only [Instr.wellFormed, Bool.and_eq_true, decide_eq_true_eq, and_assoc]

/-- The indices above 3 are those that are no other register's (R158). -/
theorem four_le_idx_iff : ∀ idx : BitVec 3, 4 ≤ idx.toNat ↔ idx ≠ 0 ∧ idx ≠ 1 ∧ ¬ (idx = 2 ∨ idx = 3) := by
  decide

theorem wellFormed_wrIgnored47 (idx : BitVec 3) (data : Word) :
    (Instr.wrIgnored47 idx data).wellFormed = true ↔ idx ≠ 0 ∧ idx ≠ 1 ∧ ¬ (idx = 2 ∨ idx = 3) := by
  simp only [Instr.wellFormed, decide_eq_true_eq, four_le_idx_iff]

/-! ## Encode, then decode -/

/-- Settles O3: each row's word assembled from its fields decodes by those fields, and the operand ranges of `wellFormed` keep
the row apart from the rows before it in R84's priority. -/
theorem decodeOfEncodeIsIdentity : Obligations.DecodeOfEncodeIsIdentity := by
  intro i hwf
  cases i with
  | cmdNop => exact .inl ⟨_, rfl, congrArg Except.ok (decodeHT_htWord true 1 0)⟩
  | cmdStart => exact .inl ⟨_, rfl, congrArg Except.ok (decodeHT_htWord true 1 1)⟩
  | cmdClear => exact .inl ⟨_, rfl, congrArg Except.ok (decodeHT_htWord true 1 2)⟩
  | cmdRsvd data =>
    obtain ⟨h₀, h₁, h₂⟩ := (wellFormed_cmdRsvd data).mp hwf
    refine .inl ⟨_, rfl, congrArg Except.ok ?_⟩
    simp only [decodeHT_htWord, h₀, h₁, h₂, reduceCtorEq, if_false, if_true]
  | wrCtrl data => exact .inl ⟨_, rfl, congrArg Except.ok (decodeHT_htWord true 0 data)⟩
  | wrIgnored23 idx data =>
    have hidx : idx = 2 ∨ idx = 3 := by simpa [Instr.wellFormed] using hwf
    rcases hidx with rfl | rfl
    · exact .inl ⟨_, rfl, congrArg Except.ok (decodeHT_htWord true 2 data)⟩
    · exact .inl ⟨_, rfl, congrArg Except.ok (decodeHT_htWord true 3 data)⟩
  | wrIgnored47 idx data =>
    obtain ⟨h₀, h₁, h₂₃⟩ := (wellFormed_wrIgnored47 idx data).mp hwf
    refine .inl ⟨_, rfl, congrArg Except.ok ?_⟩
    simp only [decodeHT_htWord, h₀, h₁, h₂₃, reduceCtorEq, if_false]
  | rd idx => exact .inl ⟨_, rfl, congrArg Except.ok (decodeHT_htWord false idx 0)⟩
  | tickIdle smp | tickPrep smp | tickStartLow smp | tickStartHigh smp | tickAck1 smp | tickAck2 smp | tickAck3 smp
  | tickBitLow smp | tickBitHigh smp | tickChecksum smp | tickSuccess smp | tickFailure smp =>
    exact .inl ⟨_, rfl, congrArg Except.ok (decodePH_phWord _ smp)⟩
  | tickUnreachable p smp =>
    have hp : 12 ≤ p.toNat := by simpa [Instr.wellFormed] using hwf
    exact .inl ⟨_, rfl, congrArg Except.ok (Machine.decodePH_unreachable p smp hp)⟩
  | reset => exact .inl ⟨_, rfl, rfl⟩
  | classify d => exact .inr ⟨rfl, .inl ⟨d, rfl⟩⟩
  | shiftIn b => exact .inr ⟨rfl, .inr (.inl ⟨b, rfl⟩)⟩
  | checksumOk => exact .inr ⟨rfl, .inr (.inr (.inl rfl))⟩
  | extract => exact .inr ⟨rfl, .inr (.inr (.inr rfl))⟩

/-! ## Decode, then encode -/

/-- The mask of R71's read fields takes a read's DATA bits away. -/
theorem htWord_read_and_mask (idx : BitVec 3) (data : Word) :
    htWord false idx data &&& 0x700000000 = htWord false idx 0 := by
  have hidx : idx &&& 7 = idx := BitVec.and_allOnes
  have hdata : data &&& 0 = 0 := BitVec.and_zero
  exact (htWord_and false false idx 7 data 0).trans (by rw [hidx, hdata, Bool.and_self])

/-- What the decoder gives for an HT word is well formed and has that word's fields (R84). -/
theorem encode_decodeHT_htWord (write : Bool) (idx : BitVec 3) (data : Word) :
    (decodeHT (htWord write idx data)).wellFormed = true
      ∧ encode (decodeHT (htWord write idx data))
        = some (.ht (if write = true then htWord write idx data else htWord write idx 0)) := by
  rw [decodeHT_htWord]
  cases write
  · exact ⟨rfl, rfl⟩
  simp only [reduceCtorEq, if_false, if_true]
  by_cases h₁ : idx = 1
  · subst h₁
    rw [if_pos rfl]
    split_ifs with hd₀ hd₁ hd₂
    · exact ⟨rfl, by rw [hd₀]; rfl⟩
    · exact ⟨rfl, by rw [hd₁]; rfl⟩
    · exact ⟨rfl, by rw [hd₂]; rfl⟩
    · exact ⟨(wellFormed_cmdRsvd data).mpr ⟨hd₀, hd₁, hd₂⟩, rfl⟩
  rw [if_neg h₁]
  split_ifs with h₀ h₂₃
  · exact ⟨rfl, by rw [h₀]; rfl⟩
  · exact ⟨by simpa [Instr.wellFormed] using h₂₃, rfl⟩
  · exact ⟨(wellFormed_wrIgnored47 idx data).mpr ⟨h₀, h₁, h₂₃⟩, rfl⟩

theorem encode_decodePH : ∀ w : BitVec 5, (decodePH w).wellFormed = true ∧ encode (decodePH w) = some (.ph w) := by
  decide

/-- Settles O4: an HT word is assembled from its fields, of which only a read's DATA is not an operand. -/
theorem encodeOfDecodeIsTheWord : Obligations.EncodeOfDecodeIsTheWord := by
  refine ⟨fun w => ?_, encode_decodePH⟩
  rw [← htWord_of_fields w]
  obtain ⟨hwf, henc⟩ := encode_decodeHT_htWord (htWrite w) (htIdx w) (htData w)
  refine ⟨hwf, henc.trans ?_⟩
  rw [htWrite_htWord]
  cases htWrite w
  · exact congrArg (some ∘ EventWord.ht) (htWord_read_and_mask _ _).symm
  · rfl

/-- Settles O2: the rows of assembled words, and every HT word is assembled from its fields. -/
theorem wordsDecodeByTheTable : Obligations.WordsDecodeByTheTable :=
  ⟨fun write idx data => congrArg Except.ok (decodeHT_htWord write idx data),
    fun w => ⟨_, _, _, (htWord_of_fields w).symm⟩, fun p smp => congrArg Except.ok (decodePH_phWord p smp)⟩

/-- Settles O1: the decoder evaluated at the eight words. -/
theorem writtenOutWordsDecode : Obligations.WrittenOutWordsDecode := by
  unfold Obligations.WrittenOutWordsDecode
  decide

end Sys2Proof

/-! Everything an instruction and a step can do, said once, and the proof that every step keeps the invariant of
10_state.md. -/

namespace Sys2Proof

/-- The rows that change nothing in any state (R121, R134, R152, R158). -/
def Instr.isIdentity : Instr → Bool
  | .cmdNop | .wrIgnored23 _ _ | .wrIgnored47 _ _ | .tickIdle _ | .tickSuccess _ | .tickFailure _ => true
  | _ => false

/-- The row runs as an event of a block in phase `p`: a tick's row is the one of the phase (R72), a host transaction's and the
reset's run in every phase, and an INTERNAL row never does (R100, R102 to R104). -/
def Instr.runsIn (p : BitVec 4) : Instr → Bool
  | .tickIdle _ => p = 0
  | .tickPrep _ => p = 1
  | .tickStartLow _ => p = 2
  | .tickStartHigh _ => p = 3
  | .tickAck1 _ => p = 4
  | .tickAck2 _ => p = 5
  | .tickAck3 _ => p = 6
  | .tickBitLow _ => p = 7
  | .tickBitHigh _ => p = 8
  | .tickChecksum _ => p = 9
  | .tickSuccess _ => p = 10
  | .tickFailure _ => p = 11
  | .tickUnreachable q _ => p = q
  | .classify _ | .shiftIn _ | .checksumOk | .extract => false
  | _ => true

theorem decodePH_runsIn : ∀ (p : BitVec 4) (smp : Bool), (decodePH (phWord p smp)).runsIn p = true := by
  decide

theorem decodeHT_runsIn (p : BitVec 4) (w : BitVec 36) : (decodeHT w).runsIn p = true := by
  unfold decodeHT
  repeat' split
  all_goals rfl

end Sys2Proof

namespace Sys2Proof.Machine

/-! ## Everything an instruction can do -/

/-- A bit but the last is shifted in, and the next one begins (R130). -/
def State.nextBit (s : State) : State :=
  { (s.shiftBit (classifyBit s.cnt.toNat)).enter Phase.bitLow 1 with bitIdx := s.bitIdx + 1 }

theorem bitDone_eq_nextBit {s : State} (h : s.bitIdx ≠ 39) : s.bitDone = s.nextBit :=
  bitDone_next h

/-- A wait row on a sample at its waited level, with the error kind and the index it would record (R126 to R130). -/
inductive Waiting (s : State) : Instr → ErrKind → BitVec 6 → Prop where
  | ack1 : Waiting s (.tickAck1 true) .noResponse 0
  | ack2 : Waiting s (.tickAck2 false) .responseTimeout1 0
  | ack3 : Waiting s (.tickAck3 true) .responseTimeout2 0
  | bitLow : Waiting s (.tickBitLow false) .bitTimeoutRising s.bitIdx
  | bitHigh : Waiting s (.tickBitHigh true) .bitTimeoutHigh s.bitIdx

/-- Everything an instruction can do to a state, one constructor per outcome of its meaning. -/
inductive Effect (s : State) : Instr → State → Prop where
  | nothing {i : Instr} (h : s.inReset = true ∨ i.isIdentity = true) : Effect s i s
  | start (hidle : s.busy = false) : Effect s .cmdStart (s.restart Phase.prep)
  | clear (hidle : s.busy = false) : Effect s .cmdClear s.clearResult
  | reject {i : Instr} (hrej : rejected s i = true) : Effect s i s.rejectCmd
  | writeCtrl (data : Word) : Effect s (.wrCtrl data) (s.writeCtrl data)
  | read (idx : BitVec 3) : Effect s (.rd idx) (s.readReg idx)
  | prep (smp : Bool) : Effect s (.tickPrep smp) (s.enter Phase.startLow 0)
  | lowCounts (smp : Bool) (hc : s.cnt.toNat + 1 ≠ 18000) : Effect s (.tickStartLow smp) s.count
  | lowEnds (smp : Bool) (hc : s.cnt.toNat + 1 = 18000) : Effect s (.tickStartLow smp) (s.enter Phase.startHigh 0)
  | highCounts (smp : Bool) (hc : s.cnt.toNat + 1 ≠ 30) : Effect s (.tickStartHigh smp) s.count
  | highEnds (smp : Bool) (hc : s.cnt.toNat + 1 = 30) : Effect s (.tickStartHigh smp) (s.enter Phase.ack1 0)
  | waits {i : Instr} {kind : ErrKind} {n : BitVec 6} (hw : Waiting s i kind n) (hc : s.cnt.toNat ≤ 99) : Effect s i s.count
  | timesOut {i : Instr} {kind : ErrKind} {n : BitVec 6} (hw : Waiting s i kind n) (hc : 100 ≤ s.cnt.toNat) :
      Effect s i (s.failEntry kind n)
  | ack1Ends : Effect s (.tickAck1 false) (s.enter Phase.ack2 1)
  | ack2Ends : Effect s (.tickAck2 true) (s.enter Phase.ack3 1)
  | ack3Ends : Effect s (.tickAck3 false) s.firstBit
  | bitLowEnds : Effect s (.tickBitLow true) (s.enter Phase.bitHigh 1)
  | nextBit (hlast : s.bitIdx ≠ 39) : Effect s (.tickBitHigh false) s.nextBit
  | lastBit (hlast : s.bitIdx = 39) : Effect s (.tickBitHigh false)
      ((s.shiftBit (classifyBit s.cnt.toNat)).enter Phase.checksum 0)
  | succeeds (smp : Bool) (hsum : checksumGood s.shreg = true) : Effect s (.tickChecksum smp) s.successEntry
  | checksumFails (smp : Bool) (hsum : checksumGood s.shreg = false) :
      Effect s (.tickChecksum smp) (s.failEntry .checksumError 0)
  | reset : Effect s .reset s.resetFields
  | putOut {i : Instr} (hi : (∃ d, i = .classify d) ∨ i = .checksumOk ∨ i = .extract) (v : Word) : Effect s i (s.putOut v)
  | shiftIn (b : Bool) : Effect s (.shiftIn b) (s.shiftBit b)

/-- What reset suppresses (R190) has the effect it has out of reset, or none. -/
theorem effect_outsideReset {f : State → State} {s : State} {i : Instr} (h : Effect s i (f s)) :
    Effect s i (outsideReset f s) := by
  rcases outsideReset_cases f s with ⟨hr, h'⟩ | ⟨-, h'⟩ <;> rw [h']
  · exact .nothing (.inl hr)
  · exact h

theorem effect_whenIdle {f : State → State} {s : State} {i : Instr} (hrej : rejected s i = s.busy)
    (h : s.busy = false → Effect s i (f s)) : Effect s i (whenIdle f s) := by
  rcases whenIdle_cases f s with ⟨hbusy, h'⟩ | ⟨hidle, h'⟩ <;> rw [h']
  · exact .reject (hrej.trans hbusy)
  · exact h hidle

theorem effect_waitStep {f : State → State} {s : State} {level : Bool} {kind : ErrKind} {n : BitVec 6} {row : Bool → Instr}
    (hw : Waiting s (row level) kind n) (h : Effect s (row !level) (f s)) (smp : Bool) :
    Effect s (row smp) (waitStep level kind n f smp s) := by
  rcases waitStep_cases level kind n f smp s with ⟨hl, h'⟩ | ⟨rfl, hc, h'⟩ | ⟨rfl, hc, h'⟩ <;> rw [h']
  · rw [Bool.eq_not_of_ne hl]
    exact h
  · exact .waits hw hc
  · exact .timesOut hw hc

theorem effect_bitDone (s : State) : Effect s (.tickBitHigh false) s.bitDone := by
  by_cases h : s.bitIdx = 39
  · exact bitDone_last h ▸ .lastBit h
  · exact bitDone_eq_nextBit h ▸ .nextBit h

theorem effect_verify (s : State) (smp : Bool) : Effect s (.tickChecksum smp) s.verify := by
  cases h : checksumGood s.shreg
  · exact verify_bad h ▸ .checksumFails smp h
  · exact verify_good h ▸ .succeeds smp h

/-- An instruction that answers a next state has one of the effects listed. -/
theorem exec_effect {i : Instr} {s t : State} (h : exec i s = .next t) : Effect s i t := by
  cases i with
  | tickUnreachable p smp => exact nomatch h
  | _ => ?_
  all_goals obtain rfl := Host.Outcome.next.inj h
  case cmdNop | wrIgnored23 | wrIgnored47 | tickIdle | tickSuccess | tickFailure => exact .nothing (.inr rfl)
  case cmdStart => exact effect_outsideReset (effect_whenIdle rfl .start)
  case cmdClear => exact effect_outsideReset (effect_whenIdle rfl .clear)
  case cmdRsvd => exact effect_outsideReset (.reject rfl)
  case wrCtrl data => exact effect_outsideReset (.writeCtrl data)
  case rd idx => exact .read idx
  case tickPrep smp => exact effect_outsideReset (.prep smp)
  case tickStartLow smp =>
    refine effect_outsideReset ?_
    rcases driveStep_cases Config.startLowTicks Phase.startHigh s with ⟨hc, h'⟩ | ⟨hc, h'⟩ <;> rw [h']
    · exact .lowEnds smp hc
    · exact .lowCounts smp hc
  case tickStartHigh smp =>
    refine effect_outsideReset ?_
    rcases driveStep_cases Config.startHighTicks Phase.ack1 s with ⟨hc, h'⟩ | ⟨hc, h'⟩ <;> rw [h']
    · exact .highEnds smp hc
    · exact .highCounts smp hc
  case tickAck1 smp => exact effect_outsideReset (effect_waitStep .ack1 .ack1Ends smp)
  case tickAck2 smp => exact effect_outsideReset (effect_waitStep .ack2 .ack2Ends smp)
  case tickAck3 smp => exact effect_outsideReset (effect_waitStep .ack3 .ack3Ends smp)
  case tickBitLow smp => exact effect_outsideReset (effect_waitStep .bitLow .bitLowEnds smp)
  case tickBitHigh smp => exact effect_outsideReset (effect_waitStep .bitHigh (effect_bitDone s) smp)
  case tickChecksum smp => exact effect_outsideReset (effect_verify s smp)
  case reset => exact .reset
  case classify d => exact .putOut (.inl ⟨d, rfl⟩) _
  case shiftIn b => exact effect_outsideReset (.shiftIn b)
  case checksumOk => exact .putOut (.inr (.inl rfl)) _
  case extract => exact .putOut (.inr (.inr rfl)) _

/-- The row a pending event runs: of a tick the one of the phase (R72), of the host a decoded transaction, or RESET. -/
theorem event_row_cases {s : State} {e : Event} {w : EventWord} {i : Instr} (hw : eventWord s e = .next w)
    (hd : decode w = .ok i) :
    (∃ smp, e = .tick smp ∧ i = decodePH (phWord s.phase smp)) ∨ (∃ v, i = decodeHT v) ∨ i = .reset := by
  cases e with
  | tick smp =>
    obtain rfl := Host.Outcome.next.inj hw
    exact .inl ⟨smp, rfl, (Except.ok.inj hd).symm⟩
  | host v =>
    obtain rfl := Host.Outcome.next.inj hw
    exact .inr (.inl ⟨v, (Except.ok.inj hd).symm⟩)
  | rst =>
    obtain rfl := Host.Outcome.next.inj hw
    exact .inr (.inr (Except.ok.inj hd).symm)
  | bus write offset size data =>
    cases hb : busWord write offset size data with
    | fault f => simp [eventWord, hb] at hw
    | refused r => simp [eventWord, hb] at hw
    | next v =>
      obtain rfl : EventWord.ht v = w := by simpa [eventWord, hb] using hw
      exact .inr (.inl ⟨v, (Except.ok.inj hd).symm⟩)

/-- A step that answers a next state is a clock cycle, or the effect of the pending event's instruction, whose row, if it is a
tick's, is the one of the phase. -/
theorem step_effect {s t : State} (h : step s = .next t) :
    (s.events = [] ∧ t = s.clockCycle)
      ∨ ∃ rest i, s.nextInstr = some i ∧ i.runsIn s.phase = true ∧ Effect (s.withEvents rest) i t := by
  rcases step_next_cases h with hcycle | ⟨e, rest, w, i, he, hw, hd, hexec⟩
  · exact .inl hcycle
  refine .inr ⟨rest, i, nextInstr_of_event he hw hd, ?_, exec_effect hexec⟩
  rcases event_row_cases hw hd with ⟨smp, -, rfl⟩ | ⟨v, rfl⟩ | rfl
  · exact decodePH_runsIn s.phase smp
  · exact decodeHT_runsIn s.phase v
  · rfl

/-! ## The invariant -/

/-- The part of the invariant on the counter and the bits (R24 to R26). -/
def State.regsOk (s : State) : Prop :=
  s.cntOk = true ∧ s.bitIdxOk = true ∧ s.shregOk = true

theorem regsOk_prep {s : State} (hp : s.phase = Phase.prep) : s.regsOk ↔ s.cnt = 0 ∧ s.bitIdx = 0 ∧ s.shreg = 0 := by
  simp [State.regsOk, State.cntOk, State.bitIdxOk, State.shregOk, hp]

theorem regsOk_startLow {s : State} (hp : s.phase = Phase.startLow) :
    s.regsOk ↔ s.cnt.toNat < 18000 ∧ s.bitIdx = 0 ∧ s.shreg = 0 := by
  simp [State.regsOk, State.cntOk, State.bitIdxOk, State.shregOk, hp, show 18000 = Config.startLowTicks from rfl]

theorem regsOk_startHigh {s : State} (hp : s.phase = Phase.startHigh) :
    s.regsOk ↔ s.cnt.toNat < 30 ∧ s.bitIdx = 0 ∧ s.shreg = 0 := by
  simp [State.regsOk, State.cntOk, State.bitIdxOk, State.shregOk, hp, show 30 = Config.startHighTicks from rfl]

theorem regsOk_ack1 {s : State} (hp : s.phase = Phase.ack1) :
    s.regsOk ↔ s.cnt.toNat ≤ 100 ∧ s.bitIdx = 0 ∧ s.shreg = 0 := by
  simp [State.regsOk, State.cntOk, State.bitIdxOk, State.shregOk, hp, show 100 = Config.timeoutLimit from rfl]

theorem regsOk_ack23 {s : State} (hp : s.phase = Phase.ack2 ∨ s.phase = Phase.ack3) :
    s.regsOk ↔ (1 ≤ s.cnt.toNat ∧ s.cnt.toNat ≤ 100) ∧ s.bitIdx = 0 ∧ s.shreg = 0 := by
  rcases hp with hp | hp <;>
    simp [State.regsOk, State.cntOk, State.bitIdxOk, State.shregOk, hp, show 100 = Config.timeoutLimit from rfl]

theorem regsOk_bit {s : State} (hp : s.phase = Phase.bitLow ∨ s.phase = Phase.bitHigh) :
    s.regsOk ↔ (1 ≤ s.cnt.toNat ∧ s.cnt.toNat ≤ 100) ∧ s.bitIdx.toNat ≤ 39 ∧ s.shreg.toNat < 2 ^ s.bitIdx.toNat := by
  rcases hp with hp | hp <;>
    simp [State.regsOk, State.cntOk, State.bitIdxOk, State.shregOk, hp, show 100 = Config.timeoutLimit from rfl]

theorem regsOk_checksum {s : State} (hp : s.phase = Phase.checksum) : s.regsOk ↔ s.cnt = 0 ∧ s.bitIdx = 39 := by
  simp [State.regsOk, State.cntOk, State.bitIdxOk, State.shregOk, hp]

/-- The count 1 with which the wait phases after ACK1 are entered is in their range. -/
theorem one_in_run : 1 ≤ (1 : BitVec 15).toNat ∧ (1 : BitVec 15).toNat ≤ 100 := by
  decide

/-- While the block is busy the invariant is about the counter, the bits so far and the prescaler; no result is held. -/
theorem inv_iff_of_busy {s : State} (hb : s.busy = true) :
    s.Inv ↔ s.regsOk ∧ (s.done = false ∧ s.ok = false ∧ s.errcode = 0 ∧ s.errbit = 0) ∧ s.prescOk := by
  obtain ⟨hlo, hhi⟩ := (busy_iff s).mp hb
  have h10 : s.phase ≠ 10#4 := by intro h; simp [h] at hhi
  have h11 : s.phase ≠ 11#4 := by intro h; simp [h] at hhi
  have hcode : s.phase.toNat ≤ 11 := by omega
  simp only [State.Inv, State.regsOk, State.phaseOk, State.flagsOk, State.errOk, State.ended]
  simp [h10, h11, hcode]
  tauto

/-- Between two busy phases the invariant is kept when the counter and the bits come to suit the second. -/
theorem inv_of_busy_move {s t : State} (h : s.Inv) (hb : s.busy = true) (hb' : t.busy = true) (hregs : s.regsOk → t.regsOk)
    (hkept : t.done = s.done ∧ t.ok = s.ok ∧ t.errcode = s.errcode ∧ t.errbit = s.errbit ∧ t.presc = s.presc) : t.Inv := by
  obtain ⟨hs, hflags, hpresc⟩ := (inv_iff_of_busy hb).mp h
  obtain ⟨hdone, hok, hcode, hbit, hpresc'⟩ := hkept
  refine (inv_iff_of_busy hb').mpr ⟨hregs hs, ?_, ?_⟩
  · rwa [hdone, hok, hcode, hbit]
  · rwa [State.prescOk, hpresc']

theorem inv_prescOk {s : State} (h : s.Inv) : s.prescOk := by
  obtain ⟨-, -, -, -, -, -, hpresc⟩ := h
  exact hpresc

theorem inv_failEntry {s : State} {kind : ErrKind} {n : BitVec 6} (hidx : s.bitIdx.toNat ≤ 39)
    (hn : n = if errCode kind = 4 ∨ errCode kind = 5 then s.bitIdx else 0) (hp : s.prescOk) : (s.failEntry kind n).Inv := by
  refine ⟨rfl, rfl, ?_, rfl, rfl, ?_, hp⟩
  · exact decide_eq_true hidx
  · cases kind <;> simpa [State.errOk, errCode] using hn

/-- SHIFT_IN doubles the bits so far and adds the new one (R102). -/
theorem shiftInBit_toNat (r : BitVec 40) (b : Bool) : (shiftInBit r b).toNat = (2 * r.toNat + b.toNat) % 2 ^ 40 := by
  have happ : (shiftInBit r b).toNat = (r.extractLsb' 0 39).toNat <<< 1 ||| (BitVec.ofBool b).toNat := BitVec.toNat_append ..
  have hb : (BitVec.ofBool b).toNat = b.toNat := BitVec.toNat_ofBool b
  rw [happ, ← Nat.shiftLeft_add_eq_or_of_lt (BitVec.ofBool b).isLt, hb, Nat.shiftLeft_eq, BitVec.extractLsb'_toNat,
    Nat.shiftRight_zero]
  have := Bool.toNat_le b
  omega

/-- One bit more fits above the bits so far (R26). -/
theorem shiftInBit_lt {r : BitVec 40} {n : Nat} (b : Bool) (h : r.toNat < 2 ^ n) : (shiftInBit r b).toNat < 2 ^ (n + 1) := by
  have hb : b.toNat ≤ 1 := Bool.toNat_le b
  rw [shiftInBit_toNat, pow_succ]
  exact (Nat.mod_le _ _).trans_lt (by omega)

theorem bitIdx_succ_toNat {s : State} (hlast : s.bitIdx ≠ 39) (h : s.bitIdx.toNat ≤ 39) :
    (s.bitIdx + 1).toNat = s.bitIdx.toNat + 1 ∧ s.bitIdx.toNat ≤ 38 := by
  have hne : s.bitIdx.toNat ≠ 39 := fun h39 => hlast (BitVec.eq_of_toNat_eq h39)
  rw [BitVec.toNat_add]
  exact ⟨Nat.mod_eq_of_lt (show s.bitIdx.toNat + 1 < 64 by omega), by omega⟩

/-- A wait row that counts keeps the invariant: its count is at most 100 after (R24). -/
theorem inv_waits {s : State} {i : Instr} {kind : ErrKind} {n : BitVec 6} (hw : Waiting s i kind n)
    (hrow : i.runsIn s.phase = true) (hc : s.cnt.toNat ≤ 99) (h : s.Inv) : s.count.Inv := by
  have hcount : s.count.cnt.toNat = s.cnt.toNat + 1 := count_toNat (by omega)
  have move (hb : s.busy = true) (hregs : s.regsOk → s.count.regsOk) : s.count.Inv :=
    inv_of_busy_move h hb hb hregs ⟨rfl, rfl, rfl, rfl, rfl⟩
  cases hw <;> have hp := of_decide_eq_true hrow <;> refine move (by simp [State.busy, hp]) fun hs => ?_
  case ack1 =>
    obtain ⟨-, hidle⟩ := (regsOk_ack1 hp).mp hs
    exact (regsOk_ack1 (s := s.count) hp).mpr ⟨by omega, hidle⟩
  case ack2 =>
    obtain ⟨-, hidle⟩ := (regsOk_ack23 (.inl hp)).mp hs
    exact (regsOk_ack23 (s := s.count) (.inl hp)).mpr ⟨by omega, hidle⟩
  case ack3 =>
    obtain ⟨-, hidle⟩ := (regsOk_ack23 (.inr hp)).mp hs
    exact (regsOk_ack23 (s := s.count) (.inr hp)).mpr ⟨by omega, hidle⟩
  case bitLow =>
    obtain ⟨-, hbits⟩ := (regsOk_bit (.inl hp)).mp hs
    exact (regsOk_bit (s := s.count) (.inl hp)).mpr ⟨by omega, hbits⟩
  case bitHigh =>
    obtain ⟨-, hbits⟩ := (regsOk_bit (.inr hp)).mp hs
    exact (regsOk_bit (s := s.count) (.inr hp)).mpr ⟨by omega, hbits⟩

/-- A wait row that times out records the index R170 gives its kind. -/
theorem inv_timesOut {s : State} {i : Instr} {kind : ErrKind} {n : BitVec 6} (hw : Waiting s i kind n)
    (hrow : i.runsIn s.phase = true) (h : s.Inv) : (s.failEntry kind n).Inv := by
  have regs (hb : s.busy = true) : s.regsOk := by
    obtain ⟨hs, -⟩ := (inv_iff_of_busy hb).mp h
    exact hs
  have fails (hidx : s.bitIdx.toNat ≤ 39) (hn : n = if errCode kind = 4 ∨ errCode kind = 5 then s.bitIdx else 0) :=
    inv_failEntry hidx hn (inv_prescOk h)
  cases hw <;> have hp := of_decide_eq_true hrow <;> have hs := regs (by simp [State.busy, hp])
  case ack1 =>
    obtain ⟨-, hidx, -⟩ := (regsOk_ack1 hp).mp hs
    exact fails (by simp [hidx]) rfl
  case ack2 =>
    obtain ⟨-, hidx, -⟩ := (regsOk_ack23 (.inl hp)).mp hs
    exact fails (by simp [hidx]) rfl
  case ack3 =>
    obtain ⟨-, hidx, -⟩ := (regsOk_ack23 (.inr hp)).mp hs
    exact fails (by simp [hidx]) rfl
  case bitLow =>
    obtain ⟨-, hidx, -⟩ := (regsOk_bit (.inl hp)).mp hs
    exact fails hidx rfl
  case bitHigh =>
    obtain ⟨-, hidx, -⟩ := (regsOk_bit (.inr hp)).mp hs
    exact fails hidx rfl

/-- Every effect of an event's row keeps the invariant. -/
theorem effect_inv {s t : State} {i : Instr} (he : Effect s i t) (hrow : i.runsIn s.phase = true) (h : s.Inv) : t.Inv := by
  have hpresc := inv_prescOk h
  have move {t : State} (hb : s.busy = true) (hb' : t.busy = true) (hregs : s.regsOk → t.regsOk)
      (hkept : t.done = s.done ∧ t.ok = s.ok ∧ t.errcode = s.errcode ∧ t.errbit = s.errbit ∧ t.presc = s.presc) : t.Inv :=
    inv_of_busy_move h hb hb' hregs hkept
  cases he with
  | nothing | reject | writeCtrl | read => exact h
  | start | clear => exact ⟨rfl, rfl, rfl, rfl, rfl, rfl, hpresc⟩
  | reset => exact ⟨rfl, rfl, rfl, rfl, rfl, rfl, Nat.succ_pos _⟩
  | waits hw hc => exact inv_waits hw hrow hc h
  | timesOut hw => exact inv_timesOut hw hrow h
  | putOut hi => rcases hi with ⟨d, rfl⟩ | rfl | rfl <;> exact absurd hrow Bool.false_ne_true
  | shiftIn => exact absurd hrow Bool.false_ne_true
  | prep smp =>
    have hp : s.phase = Phase.prep := of_decide_eq_true hrow
    refine move (by simp [State.busy, hp]) rfl (fun hs => ?_) ⟨rfl, rfl, rfl, rfl, rfl⟩
    obtain ⟨-, hidle⟩ := (regsOk_prep hp).mp hs
    exact (regsOk_startLow rfl).mpr ⟨(by decide : (0 : BitVec 15).toNat < 18000), hidle⟩
  | lowCounts smp hc =>
    have hp : s.phase = Phase.startLow := of_decide_eq_true hrow
    have hb : s.busy = true := by simp [State.busy, hp]
    refine move hb hb (fun hs => ?_) ⟨rfl, rfl, rfl, rfl, rfl⟩
    obtain ⟨hcnt, hidle⟩ := (regsOk_startLow hp).mp hs
    have hcount : s.count.cnt.toNat = s.cnt.toNat + 1 := count_toNat (by omega)
    exact (regsOk_startLow (s := s.count) hp).mpr ⟨by omega, hidle⟩
  | lowEnds smp =>
    have hp : s.phase = Phase.startLow := of_decide_eq_true hrow
    refine move (by simp [State.busy, hp]) rfl (fun hs => ?_) ⟨rfl, rfl, rfl, rfl, rfl⟩
    obtain ⟨-, hidle⟩ := (regsOk_startLow hp).mp hs
    exact (regsOk_startHigh rfl).mpr ⟨(by decide : (0 : BitVec 15).toNat < 30), hidle⟩
  | highCounts smp hc =>
    have hp : s.phase = Phase.startHigh := of_decide_eq_true hrow
    have hb : s.busy = true := by simp [State.busy, hp]
    refine move hb hb (fun hs => ?_) ⟨rfl, rfl, rfl, rfl, rfl⟩
    obtain ⟨hcnt, hidle⟩ := (regsOk_startHigh hp).mp hs
    have hcount : s.count.cnt.toNat = s.cnt.toNat + 1 := count_toNat (by omega)
    exact (regsOk_startHigh (s := s.count) hp).mpr ⟨by omega, hidle⟩
  | highEnds smp =>
    have hp : s.phase = Phase.startHigh := of_decide_eq_true hrow
    refine move (by simp [State.busy, hp]) rfl (fun hs => ?_) ⟨rfl, rfl, rfl, rfl, rfl⟩
    obtain ⟨-, hidle⟩ := (regsOk_startHigh hp).mp hs
    exact (regsOk_ack1 rfl).mpr ⟨(by decide : (0 : BitVec 15).toNat ≤ 100), hidle⟩
  | ack1Ends =>
    have hp : s.phase = Phase.ack1 := of_decide_eq_true hrow
    refine move (by simp [State.busy, hp]) rfl (fun hs => ?_) ⟨rfl, rfl, rfl, rfl, rfl⟩
    obtain ⟨-, hidle⟩ := (regsOk_ack1 hp).mp hs
    exact (regsOk_ack23 (.inl rfl)).mpr ⟨one_in_run, hidle⟩
  | ack2Ends =>
    have hp : s.phase = Phase.ack2 := of_decide_eq_true hrow
    refine move (by simp [State.busy, hp]) rfl (fun hs => ?_) ⟨rfl, rfl, rfl, rfl, rfl⟩
    obtain ⟨-, hidle⟩ := (regsOk_ack23 (.inl hp)).mp hs
    exact (regsOk_ack23 (.inr rfl)).mpr ⟨one_in_run, hidle⟩
  | ack3Ends =>
    have hp : s.phase = Phase.ack3 := of_decide_eq_true hrow
    refine move (by simp [State.busy, hp]) rfl (fun hs => ?_) ⟨rfl, rfl, rfl, rfl, rfl⟩
    obtain ⟨-, -, hsh⟩ := (regsOk_ack23 (.inr hp)).mp hs
    exact (regsOk_bit (.inl rfl)).mpr ⟨one_in_run, Nat.zero_le 39, by simp [hsh]⟩
  | bitLowEnds =>
    have hp : s.phase = Phase.bitLow := of_decide_eq_true hrow
    refine move (by simp [State.busy, hp]) rfl (fun hs => ?_) ⟨rfl, rfl, rfl, rfl, rfl⟩
    obtain ⟨-, hbits⟩ := (regsOk_bit (.inl hp)).mp hs
    exact (regsOk_bit (.inr rfl)).mpr ⟨one_in_run, hbits⟩
  | nextBit hlast =>
    have hp : s.phase = Phase.bitHigh := of_decide_eq_true hrow
    refine move (by simp [State.busy, hp]) rfl (fun hs => ?_) ⟨rfl, rfl, rfl, rfl, rfl⟩
    obtain ⟨-, hidx, hsh⟩ := (regsOk_bit (.inr hp)).mp hs
    obtain ⟨hsucc, hle⟩ := bitIdx_succ_toNat hlast hidx
    refine (regsOk_bit (.inl rfl)).mpr ⟨one_in_run, ?_⟩
    rw [show s.nextBit.bitIdx.toNat = s.bitIdx.toNat + 1 from hsucc]
    exact ⟨by omega, shiftInBit_lt _ hsh⟩
  | lastBit hlast =>
    have hp : s.phase = Phase.bitHigh := of_decide_eq_true hrow
    refine move (by simp [State.busy, hp]) rfl (fun hs => ?_) ⟨rfl, rfl, rfl, rfl, rfl⟩
    exact (regsOk_checksum rfl).mpr ⟨rfl, hlast⟩
  | succeeds smp hsum =>
    have hp : s.phase = Phase.checksum := of_decide_eq_true hrow
    obtain ⟨hs, -⟩ := (inv_iff_of_busy (by simp [State.busy, hp])).mp h
    obtain ⟨-, hidx⟩ := (regsOk_checksum hp).mp hs
    exact ⟨rfl, rfl, decide_eq_true hidx, hsum, rfl, rfl, hpresc⟩
  | checksumFails smp =>
    have hp : s.phase = Phase.checksum := of_decide_eq_true hrow
    obtain ⟨hs, -⟩ := (inv_iff_of_busy (by simp [State.busy, hp])).mp h
    obtain ⟨-, hidx⟩ := (regsOk_checksum hp).mp hs
    exact inv_failEntry (by simp [hidx]) rfl hpresc

/-- A clock cycle keeps the prescaler below its period (R33). -/
theorem clockCycle_prescOk {s : State} (h : s.prescOk) : s.clockCycle.prescOk := by
  rw [State.prescOk, State.clockCycle_presc]
  split
  · exact Nat.succ_pos _
  · next hcount =>
    have hdue : ¬ s.presc + 1 = Config.clkPerTick := by
      intro hdue
      simp [State.tickDue, hdue] at hcount
    rw [State.prescOk] at h
    omega

/-- Settles O12: a clock cycle moves only the prescaler, and each effect of an event's row comes to registers that suit its next
phase. -/
theorem stepKeepsInvariant : Obligations.StepKeepsInvariant := by
  intro s t h hstep
  rcases step_effect hstep with ⟨-, rfl⟩ | ⟨rest, i, -, hrow, heff⟩
  · obtain ⟨hphase, hcnt, hidx, hsh, hflags, herr, hpresc⟩ := h
    exact ⟨hphase, hcnt, hidx, hsh, hflags, herr, clockCycle_prescOk hpresc⟩
  · exact effect_inv (s := s.withEvents rest) heff hrow h

/-- Settles O11: at reset the phase is IDLE, and the prescaler's period is not 0. -/
theorem invariantAtReset : Obligations.InvariantAtReset :=
  ⟨rfl, rfl, rfl, rfl, rfl, rfl, Nat.succ_pos _⟩

end Sys2Proof.Machine

/-! Reset as an event and as a level, the event that a step runs, and the proofs of the statements of
70_reset_and_hazards.md and 00_scope.md. -/

namespace Sys2Proof

/-- The rows that reset suppresses (R190): the ticks and the host's writes, and SHIFT_IN, which only ticks perform. -/
def Instr.heldInReset : Instr → Bool
  | .rd _ | .tickUnreachable _ _ | .reset | .classify _ | .checksumOk | .extract => false
  | _ => true

theorem decodePH_heldInReset : ∀ (p : BitVec 4) (smp : Bool), p.toNat ≤ 11 →
    (decodePH (phWord p smp)).heldInReset = true := by
  decide

/-- A read's row is RD at its index (R71, R84). -/
theorem decodeHT_read {w : BitVec 36} (h : htWrite w = false) : decodeHT w = .rd (htIdx w) := by
  rw [← htWord_of_fields w, h, decodeHT_htWord, htIdx_htWord]
  rfl

theorem decodeHT_heldInReset {w : BitVec 36} (h : htWrite w = true) : (decodeHT w).heldInReset = true := by
  rw [← htWord_of_fields w, h, decodeHT_htWord, if_neg (by decide)]
  repeat' split
  all_goals rfl

end Sys2Proof

namespace Sys2Proof.Machine

/-! ## The step on its event -/

/-- Settles O5: `nextInstr` is the row the event's word decodes to. -/
theorem stepRunsTheDecodedEvent : Obligations.StepRunsTheDecodedEvent := by
  have run {s : State} {e : Event} {rest : List Event} {w : EventWord} {i : Instr} (he : s.events = e :: rest)
      (hw : eventWord s e = .next w) (hd : decode w = .ok i) : step s = exec i { s with events := rest } := by
    rw [step_of_nextInstr (nextInstr_of_event he hw hd), he]
    rfl
  exact ⟨fun s e rest w i => run, fun _ _ => rfl, fun _ _ => rfl, fun s rest he => run he rfl rfl⟩

/-! ## The reset event -/

theorem reset_rdval : ∀ idx : BitVec 3, State.reset.rdval idx = 0 := by
  decide

/-- Settles O6: the fields of `State.reset`, and every register's read value of them. -/
theorem resetStateHoldsTheTable : Obligations.ResetStateHoldsTheTable :=
  ⟨⟨rfl, rfl, rfl, rfl, rfl, rfl, rfl, rfl, rfl, rfl, rfl⟩, rfl, rfl, rfl, rfl, rfl, reset_rdval, rfl, rfl, rfl⟩

/-- The registers read the working registers that R150 names, and no other field. -/
theorem rdval_congr {s t : State} (hphase : t.phase = s.phase) (hie : t.ie = s.ie)
    (hflags : t.done = s.done ∧ t.ok = s.ok ∧ t.cmderr = s.cmderr) (herr : t.errcode = s.errcode ∧ t.errbit = s.errbit)
    (hshreg : t.shreg = s.shreg) (idx : BitVec 3) : t.rdval idx = s.rdval idx := by
  obtain ⟨hdone, hok, hcmderr⟩ := hflags
  obtain ⟨hcode, hbit⟩ := herr
  simp only [State.rdval, State.statusWord, State.busy, State.frameLo, State.frameHi, State.reading, hphase, hie, hdone, hok,
    hcmderr, hcode, hbit, hshreg]

theorem resetFields_rdval (s : State) (idx : BitVec 3) : s.resetFields.rdval idx = 0 :=
  (rdval_congr (s := State.reset) rfl rfl ⟨rfl, rfl, rfl⟩ ⟨rfl, rfl⟩ rfl idx).trans (reset_rdval idx)

theorem resetFields_atResetValues (s : State) : s.resetFields.atResetValues :=
  ⟨rfl, rfl, rfl, rfl, rfl, rfl, rfl, rfl, rfl, rfl, rfl⟩

/-- Settles O7: the registers after the event are those of `State.reset`, whatever the state before. -/
theorem resetEventEffect : Obligations.ResetEventEffect := by
  intro s
  exact ⟨s.resetFields, rfl, resetFields_atResetValues s, rfl, rfl, rfl, rfl, rfl, rfl,
    resetFields_rdval s, rfl, rfl, rfl, rfl, rfl⟩

/-! ## The block in reset -/

/-- In reset the suppressed rows change nothing (R190). -/
theorem exec_heldInReset {s : State} (hr : s.inReset = true) {i : Instr} (hi : i.heldInReset = true) : exec i s = .next s := by
  cases i
  case rd | tickUnreachable | reset | classify | checksumOk | extract => exact absurd hi Bool.false_ne_true
  case cmdNop | wrIgnored23 | wrIgnored47 | tickIdle | tickSuccess | tickFailure => rfl
  all_goals exact congrArg Host.Outcome.next (outsideReset_in _ hr)

theorem exec_rd_inReset {s : State} (hr : s.inReset = true) (idx : BitVec 3) :
    exec (.rd idx) s = .next { s with rdata := 0 } := by
  simp only [exec, execRd, State.readReg, hr, if_true]

/-- Settles O8: ticks and writes are suppressed rows, and a read in reset returns 0. -/
theorem inResetOnlyReadsAnswer : Obligations.InResetOnlyReadsAnswer := by
  intro s hr
  exact ⟨fun w hw => exec_heldInReset hr (decodeHT_heldInReset hw), exec_rd_inReset hr,
    fun p smp hp => exec_heldInReset hr (decodePH_heldInReset p smp hp)⟩

/-- In reset no instruction takes the registers from their reset values. -/
theorem exec_inReset_atResetValues {i : Instr} {s t : State} (hr : s.inReset = true) (h : exec i s = .next t)
    (hs : s.atResetValues) : t.atResetValues := by
  by_cases hi : i.heldInReset = true
  · obtain rfl := Host.Outcome.next.inj ((exec_heldInReset hr hi).symm.trans h)
    exact hs
  cases i with
  | tickUnreachable => exact nomatch h
  | reset =>
    obtain rfl := Host.Outcome.next.inj h
    exact resetFields_atResetValues s
  | rd | classify | checksumOk | extract =>
    obtain rfl := Host.Outcome.next.inj h
    exact hs
  | _ => exact absurd rfl hi

/-- After a clock cycle a block in reset has the reset event pending (R190, R191). -/
theorem clockCycle_resetHeld {s : State} (hs : s.stagesOk) :
    s.clockCycle.stagesOk ∧ (s.clockCycle.inReset = true → s.clockCycle.events.head? = some .rst) := by
  obtain ⟨hfill, -⟩ := hs
  refine ⟨⟨fun h₂ => ?_, id⟩, fun hr => ?_⟩
  · rw [State.clockCycle_rstS2, Bool.and_eq_true] at h₂
    obtain ⟨hrise, -⟩ := h₂
    exact hrise
  · have hcycle : s.cycleInReset = true := by
      rw [State.inReset, State.clockCycle_rstN, State.clockCycle_rstS2] at hr
      rw [State.cycleInReset]
      cases hn : s.nextInput.rstN
      · rfl
      · cases h₂ : s.rstS2
        · rfl
        · simp [hn, hfill h₂] at hr
    rw [State.clockCycle_events, if_pos hcycle]
    exact resetEvents_head _

/-- Settles O9: a clock cycle in reset makes the reset event the next; in reset that event sets the reset values, and no other
instruction takes the registers from them. -/
theorem stepKeepsResetHeld : Obligations.StepKeepsResetHeld := by
  rintro s t ⟨hstages, hheld⟩ hstep
  rcases step_next_cases hstep with ⟨-, rfl⟩ | ⟨e, rest, w, i, he, hw, hd, hexec⟩
  · obtain ⟨hstages', hhead⟩ := clockCycle_resetHeld hstages
    refine ⟨⟨hstages', fun hr => .inl (hhead hr)⟩, fun hr hnone => ?_⟩
    rw [hnone] at hhead
    exact nomatch hhead hr
  · obtain ⟨-, -, hN, h₁, h₂⟩ := exec_keeps_pending i hexec
    have hvals (hr : t.inReset = true) : t.atResetValues := by
      have hr' : s.inReset = true := (inReset_congr hN h₂).symm.trans hr
      rcases hheld hr' with hhead | hvals
      · obtain rfl : e = .rst := by simpa [he] using hhead
        obtain rfl := Host.Outcome.next.inj hw
        obtain rfl : Instr.reset = i := Except.ok.inj hd
        obtain rfl := Host.Outcome.next.inj hexec
        exact resetFields_atResetValues _
      · exact exec_inReset_atResetValues (s := s.withEvents rest) hr' hexec hvals
    refine ⟨⟨?_, fun hr => .inr (hvals hr)⟩, fun hr _ => hvals hr⟩
    rw [State.stagesOk, hN, h₁, h₂]
    exact hstages

/-- A cycle in reset with no host read in it: the clock cycle and then the reset event. -/
theorem runSteps_cycleInReset {s : State} (he : s.events = []) (hr : s.cycleInReset = true)
    (hw : ∀ w, s.nextInput.host = some w → htWrite w = true) :
    runSteps 2 s = .next (s.clockCycle.withEvents []).resetFields := by
  have hevents : s.clockCycle.events = [.rst] := by
    rw [State.clockCycle_events, if_pos hr]
    cases hhost : s.nextInput.host with
    | none => rfl
    | some w => simp [resetEvents, hw w hhost]
  have hrst : step s.clockCycle = .next (s.clockCycle.withEvents []).resetFields := by
    rw [step_of_nextInstr (nextInstr_of_event hevents rfl rfl), hevents]
    rfl
  rw [runSteps_succ, step_of_no_event he]
  exact (runSteps_succ 0 s.clockCycle).trans (by rw [hrst]; rfl)

/-- Settles O10: the second stage is still empty when each of the two cycles begins, and the second cycle fills it. -/
theorem releaseTakesTwoEdges : Obligations.ReleaseTakesTwoEdges := by
  intro s c₁ c₂ rest he h₁ h₂ hin hc₁ hc₂ hw₁ hw₂
  have hnext : s.nextInput = c₁ := by simp [State.nextInput, hin]
  have hrun₁ := runSteps_cycleInReset he (by simp [State.cycleInReset, h₂]) (by rwa [hnext])
  set t := (s.clockCycle.withEvents []).resetFields with ht
  have htin : t.inputs = c₂ :: rest := by simp [ht, hin]
  have htnext : t.nextInput = c₂ := by simp [State.nextInput, htin]
  have ht₁ : t.rstS1 = true := by simp [ht, hnext, hc₁]
  have ht₂ : t.rstS2 = false := by simp [ht, h₁]
  have hrun₂ := runSteps_cycleInReset (s := t) rfl (by simp [State.cycleInReset, ht₂]) (by rwa [htnext])
  refine ⟨t, _, hrun₁, by simp [State.inReset, ht₂], resetFields_atResetValues _,
    (runSteps_add 2 2 s).trans (by rw [hrun₁]; exact hrun₂), ?_, resetFields_atResetValues _, rfl, ?_⟩
  · simp [State.inReset, htnext, hc₂, ht₁]
  · simp [htin]

end Sys2Proof.Machine

/-! What the linear sequence of phases allows a step, how a result comes and goes, and the proofs of the statements of
10_state.md, 20_memory.md and 60_exceptions.md on steps. -/

namespace Sys2Proof.Machine

/-! ## Every change of phase -/

/-- The phases of a wait row are its own and FAILURE's (R120, R22). -/
theorem waiting_phaseEdge {s : State} {i : Instr} {kind : ErrKind} {n : BitVec 6} (hw : Waiting s i kind n)
    (hrow : i.runsIn s.phase = true) : s.busy = true ∧ phaseEdge s.phase Phase.failure = true := by
  cases hw <;> have hp := of_decide_eq_true hrow <;> simp [State.busy, phaseEdge, hp]

/-- Everything an event's row can do to `phase`. -/
theorem effect_phase_cases {s t : State} {i : Instr} (he : Effect s i t) (hrow : i.runsIn s.phase = true) :
    t.phase = s.phase
      ∨ (i = .cmdStart ∧ s.busy = false ∧ t.phase = Phase.prep)
      ∨ (i = .cmdClear ∧ s.busy = false ∧ t.phase = Phase.idle)
      ∨ (i = .reset ∧ t.phase = Phase.idle)
      ∨ (s.busy = true ∧ phaseEdge s.phase t.phase = true) := by
  cases he with
  | nothing | reject | writeCtrl | read | lowCounts | highCounts | waits | putOut | shiftIn => exact .inl rfl
  | start hidle => exact .inr (.inl ⟨rfl, hidle, rfl⟩)
  | clear hidle => exact .inr (.inr (.inl ⟨rfl, hidle, rfl⟩))
  | reset => exact .inr (.inr (.inr (.inl ⟨rfl, rfl⟩)))
  | timesOut hw => exact .inr (.inr (.inr (.inr (waiting_phaseEdge hw hrow))))
  | _ =>
    have hp := of_decide_eq_true hrow
    exact .inr (.inr (.inr (.inr ⟨by simp [State.busy, hp], by rw [hp]; rfl⟩)))

/-- Everything a step can do to `phase`: a clock cycle leaves it, and an event's row does as `effect_phase_cases` says. -/
theorem step_phase_cases {s t : State} (h : step s = .next t) :
    t.phase = s.phase
      ∨ (s.nextInstr = some .cmdStart ∧ s.busy = false ∧ t.phase = Phase.prep)
      ∨ (s.nextInstr = some .cmdClear ∧ s.busy = false ∧ t.phase = Phase.idle)
      ∨ (s.nextInstr = some .reset ∧ t.phase = Phase.idle)
      ∨ (s.busy = true ∧ phaseEdge s.phase t.phase = true) := by
  rcases step_effect h with ⟨-, rfl⟩ | ⟨rest, i, hi, hrow, heff⟩
  · exact .inl rfl
  rw [hi]
  rcases effect_phase_cases (s := s.withEvents rest) heff hrow with hsame | ⟨rfl, hcmd⟩ | ⟨rfl, hcmd⟩ | ⟨rfl, hp⟩
    | ⟨hbusy, hedge⟩
  · exact .inl hsame
  · exact .inr (.inl ⟨rfl, hcmd⟩)
  · exact .inr (.inr (.inl ⟨rfl, hcmd⟩))
  · exact .inr (.inr (.inr (.inl ⟨rfl, hp⟩)))
  · exact .inr (.inr (.inr (.inr ⟨hbusy, hedge⟩)))

/-! ## Codes 12 to 15 -/

theorem phaseEdge_codes : ∀ p q : BitVec 4, phaseEdge p q = true → q.toNat ≤ 11 := by
  decide

/-- Settles O21: the row of codes 12 to 15 is refused, and no change of phase ends in one of them. -/
theorem unreachablePhasesAreRefused : Obligations.UnreachablePhasesAreRefused := by
  refine ⟨fun _ _ _ => rfl, fun s smp rest he hp => ?_, fun s t h hp => ?_⟩
  · rw [step_of_nextInstr (nextInstr_of_event he rfl rfl), decodePH_unreachable _ _ hp]
    rfl
  · rcases step_phase_cases h with hsame | ⟨-, -, ht⟩ | ⟨-, -, ht⟩ | ⟨-, ht⟩ | ⟨-, hedge⟩
    · rwa [hsame]
    · simp [ht]
    · simp [ht]
    · simp [ht]
    · exact phaseEdge_codes _ _ hedge

/-! ## The linear sequence -/

/-- A reachable phase that is not busy is one of rest (R206). -/
theorem atRest_of_not_busy {s : State} (h : s.Inv) (hidle : s.busy = false) : s.atRest = true := by
  obtain ⟨hcode, -⟩ := h
  have hle : s.phase.toNat ≤ 11 := of_decide_eq_true hcode
  have hrest : ∀ p : BitVec 4, p.toNat ≤ 11 → ¬ (1 ≤ p.toNat ∧ p.toNat ≤ 9) → p = 0 ∨ p = 10 ∨ p = 11 := by decide
  exact (atRest_iff s).mpr (hrest _ hle (by simp [← busy_iff, hidle]))

theorem phaseEdge_prep : ∀ p : BitVec 4, phaseEdge p Phase.prep = true → p = 0 ∨ p = 10 ∨ p = 11 := by
  decide

/-- A transaction moves forward in the order of R22: a row that runs while the block is busy keeps the pair of phase and bit
index, or advances it, or ends the transaction. -/
theorem effect_progress {s t : State} {i : Instr} (he : Effect s i t) (hrow : i.runsIn s.phase = true) (h : s.Inv)
    (hb : s.busy = true) (hb' : t.busy = true) : s.phase = t.phase ∧ s.bitIdx = t.bitIdx ∨ s.progress < t.progress := by
  obtain ⟨hs, -⟩ := (inv_iff_of_busy hb).mp h
  cases he with
  | nothing | reject | writeCtrl | read | lowCounts | highCounts | waits | putOut | shiftIn => exact .inl ⟨rfl, rfl⟩
  | start hidle | clear hidle => exact absurd (hb.symm.trans hidle) (by decide)
  | reset | timesOut | succeeds | checksumFails => exact absurd hb' Bool.false_ne_true
  | prep | lowEnds | highEnds | ack1Ends | ack2Ends | ack3Ends | bitLowEnds =>
    have hp := of_decide_eq_true hrow
    exact .inr (by simp [State.progress, hp])
  | nextBit hlast =>
    have hp : s.phase = Phase.bitHigh := of_decide_eq_true hrow
    obtain ⟨-, hidx, -⟩ := (regsOk_bit (.inr hp)).mp hs
    obtain ⟨hsucc, -⟩ := bitIdx_succ_toNat hlast hidx
    have hnext : s.nextBit.progress = 7 + 2 * (s.bitIdx + 1).toNat := rfl
    have hnow : s.progress = 8 + 2 * s.bitIdx.toNat := by simp [State.progress, hp]
    exact .inr (by omega)
  | lastBit hlast =>
    have hp : s.phase = Phase.bitHigh := of_decide_eq_true hrow
    exact .inr (by simp [State.progress, hp, hlast])

/-- Settles O26: the cases of a change of phase are edges of the sequence, busy rows advance, and only START leads to PREP. -/
theorem phasesAreLinear : Obligations.PhasesAreLinear := by
  intro s t h hstep
  refine ⟨fun hne => ?_, fun hb hb' => ?_, fun hne hprep => ?_⟩
  · have edge (hidle : s.busy = false) {q : BitVec 4} (hq : q = 0 ∨ q = 1) (ht : t.phase = q) :
        phaseEdge s.phase t.phase = true := by
      rw [ht] at hne ⊢
      rcases (atRest_iff s).mp (atRest_of_not_busy h hidle) with hp | hp | hp <;> rw [hp] at hne ⊢ <;>
        rcases hq with rfl | rfl <;> simp [phaseEdge] at hne ⊢
    rcases step_phase_cases hstep with hsame | ⟨-, hidle, ht⟩ | ⟨-, hidle, ht⟩ | ⟨hi, -⟩ | ⟨-, hedge⟩
    · exact absurd hsame.symm hne
    · exact .inr (edge hidle (.inr rfl) ht)
    · exact .inr (edge hidle (.inl rfl) ht)
    · exact .inl hi
    · exact .inr hedge
  · rcases step_effect hstep with ⟨-, rfl⟩ | ⟨rest, i, -, hrow, heff⟩
    · exact .inl ⟨rfl, rfl⟩
    · exact effect_progress (s := s.withEvents rest) heff hrow h hb hb'
  · rcases step_phase_cases hstep with hsame | ⟨hi, hidle, -⟩ | ⟨-, -, ht⟩ | ⟨-, ht⟩ | ⟨hb, hedge⟩
    · exact absurd (hsame.symm.trans hprep) hne
    · exact ⟨hi, atRest_of_not_busy h hidle⟩
    · exact absurd (hprep.symm.trans ht) (by decide)
    · exact absurd (hprep.symm.trans ht) (by decide)
    · rw [hprep] at hedge
      rcases phaseEdge_prep _ hedge with hp | hp | hp <;> simp [State.busy, hp] at hb

/-! ## The exclusive window -/

theorem excl_iff (s : State) : s.excl = true ↔ 2 ≤ s.phase.toNat ∧ s.phase.toNat ≤ 9 := by
  simp [State.excl]

/-- The edge into the window is the PREP tick's. -/
theorem phaseEdge_enters_window : ∀ p q : BitVec 4, phaseEdge p q = true →
    ¬ (2 ≤ p.toNat ∧ p.toNat ≤ 9) → 2 ≤ q.toNat ∧ q.toNat ≤ 9 → p = 1 ∧ q = 2 := by
  decide

/-- The edges out of the window end the transaction. -/
theorem phaseEdge_leaves_window : ∀ p q : BitVec 4, phaseEdge p q = true →
    2 ≤ p.toNat ∧ p.toNat ≤ 9 → ¬ (2 ≤ q.toNat ∧ q.toNat ≤ 9) → q = 10 ∨ q = 11 := by
  decide

theorem window_codes : ∀ p : BitVec 4, 2 ≤ p.toNat ∧ p.toNat ≤ 9 ↔
    p = 2 ∨ p = 3 ∨ p = 4 ∨ p = 5 ∨ p = 6 ∨ p = 7 ∨ p = 8 ∨ p = 9 := by
  decide

theorem ended_iff (s : State) : s.ended = true ↔ s.phase = 10 ∨ s.phase = 11 := by
  simp [State.ended]

/-- Settles O46: the window is a set of phases; edges of the sequence enter it at PREP and leave it at an end, and reset leaves
it. -/
theorem exclusiveWindow : Obligations.ExclusiveWindow := by
  refine ⟨fun s => (excl_iff s).trans (window_codes _), fun s t _ hstep => ?_⟩
  refine ⟨fun hlo hhi => ?_, fun hhi hlo => ?_, fun hend => ?_⟩
  · have hout : ¬ (2 ≤ s.phase.toNat ∧ s.phase.toNat ≤ 9) := by simp [← excl_iff, hlo]
    have hin := (excl_iff t).mp hhi
    rcases step_phase_cases hstep with hsame | ⟨-, -, ht⟩ | ⟨-, -, ht⟩ | ⟨-, ht⟩ | ⟨-, hedge⟩
    · exact absurd (hsame ▸ hin) hout
    · simp [ht] at hin
    · simp [ht] at hin
    · simp [ht] at hin
    · exact phaseEdge_enters_window _ _ hedge hout hin
  · have hout : ¬ (2 ≤ t.phase.toNat ∧ t.phase.toNat ≤ 9) := by simp [← excl_iff, hlo]
    have hin := (excl_iff s).mp hhi
    have hb : s.busy = true := (busy_iff s).mpr ⟨by omega, by omega⟩
    rcases step_phase_cases hstep with hsame | ⟨-, hidle, -⟩ | ⟨-, hidle, -⟩ | ⟨hi, ht⟩ | ⟨-, hedge⟩
    · exact absurd (hsame ▸ hin) hout
    · exact absurd (hb.symm.trans hidle) (by decide)
    · exact absurd (hb.symm.trans hidle) (by decide)
    · exact .inr ⟨hi, ht⟩
    · exact .inl ((ended_iff t).mpr (phaseEdge_leaves_window _ _ hedge hin hout))
  · rcases (ended_iff t).mp hend with hp | hp <;> simp [State.excl, hp]

/-! ## How a result comes and goes -/

theorem flags_of_inv {s : State} (h : s.Inv) : s.done = s.ended ∧ s.ok = decide (s.phase = Phase.success) := by
  obtain ⟨-, -, -, -, hflags, -, -⟩ := h
  simpa [State.flagsOk] using hflags

theorem done_iff_of_inv {s : State} (h : s.Inv) : s.done = true ↔ s.phase = 10 ∨ s.phase = 11 := by
  obtain ⟨hdone, -⟩ := flags_of_inv h
  rw [hdone, ended_iff]

theorem ok_iff_of_inv {s : State} (h : s.Inv) : s.ok = true ↔ s.phase = 10 := by
  obtain ⟨-, hok⟩ := flags_of_inv h
  rw [hok, decide_eq_true_eq]

theorem not_ok_iff_of_inv {s : State} (h : s.Inv) : s.ok = false ↔ s.phase ≠ 10 := by
  rw [ne_eq, ← ok_iff_of_inv h, Bool.not_eq_true]

theorem phaseEdge_success : ∀ p : BitVec 4, phaseEdge p Phase.success = true → p = 9 := by
  decide

/-- A step that enters SUCCESS is the CHECKSUM tick of a frame whose checksum holds, and keeps the frame (R132, R133). -/
theorem step_enters_success {s t : State} (h : s.Inv) (hstep : step s = .next t) (hne : s.phase ≠ 10) (h10 : t.phase = 10) :
    s.phase = 9 ∧ Claims.sumHolds s.shreg ∧ t.shreg = s.shreg := by
  have ht := stepKeepsInvariant s t h hstep
  have hp : s.phase = 9 := by
    rcases step_phase_cases hstep with hsame | ⟨-, -, hq⟩ | ⟨-, -, hq⟩ | ⟨-, hq⟩ | ⟨-, hedge⟩
    · exact absurd (hsame.symm.trans h10) hne
    · exact absurd (h10.symm.trans hq) (by decide)
    · exact absurd (h10.symm.trans hq) (by decide)
    · exact absurd (h10.symm.trans hq) (by decide)
    · rw [h10] at hedge
      exact phaseEdge_success _ hedge
  have hdone : t.done = true := (done_iff_of_inv ht).mpr (.inl h10)
  have hnot : s.done ≠ true := by simp [done_iff_of_inv h, hp]
  have hkept : t.shreg = s.shreg := by
    rcases step_end_cases hstep with ⟨hsame, -⟩ | ⟨-, hclr, -⟩ | ⟨smp, rest, -, ⟨-, rfl⟩ | ⟨code, i, -, rfl⟩⟩
    · exact absurd (hsame.symm.trans hdone) hnot
    · exact absurd (hdone.symm.trans hclr) (by decide)
    · rfl
    · exact absurd h10 (by decide : Phase.failure ≠ 10)
  have hsum : checksumGood t.shreg = true := by
    obtain ⟨-, -, -, hshreg, -⟩ := ht
    simpa [State.shregOk, h10] using hshreg
  exact ⟨hp, (checksumGood_iff_sumHolds _).mp (hkept ▸ hsum), hkept⟩

/-- `done` falls only by an accepted START or CLEAR, or reset (R28). -/
theorem step_done_falls {s t : State} (hstep : step s = .next t) (hs : s.done = true) (ht : t.done = false) :
    (s.nextInstr = some .cmdStart ∨ s.nextInstr = some .cmdClear) ∧ s.busy = false ∨ s.nextInstr = some .reset := by
  rcases step_end_cases hstep with ⟨hsame, -⟩ | ⟨hcmd, -⟩ | ⟨smp, rest, -, hend⟩
  · exact absurd (hs.symm.trans (hsame.symm.trans ht)) (by decide)
  · exact hcmd
  · obtain ⟨hdone, -⟩ := tick_end_flags hend
    exact absurd (hdone.symm.trans ht) (by decide)

/-- `ok` falls only together with `done`: SUCCESS is left for no other ending (R29). -/
theorem step_ok_falls {s t : State} (h : s.Inv) (hstep : step s = .next t) (hs : s.ok = true) (ht : t.ok = false) :
    (s.nextInstr = some .cmdStart ∨ s.nextInstr = some .cmdClear) ∧ s.busy = false ∨ s.nextInstr = some .reset := by
  have h10 : s.phase = 10 := (ok_iff_of_inv h).mp hs
  have hne : t.phase ≠ 10 := (not_ok_iff_of_inv (stepKeepsInvariant s t h hstep)).mp ht
  rcases step_phase_cases hstep with hsame | ⟨hi, hidle, -⟩ | ⟨hi, hidle, -⟩ | ⟨hi, -⟩ | ⟨hb, -⟩
  · exact absurd (hsame.trans h10) hne
  · exact .inl ⟨.inl hi, hidle⟩
  · exact .inl ⟨.inr hi, hidle⟩
  · exact .inr hi
  · simp [State.busy, h10] at hb

theorem busy_of_tickFails {s : State} {smp : Bool} {code : BitVec 4} {i : BitVec 6} (h : tickFails s smp code i) :
    s.busy = true := by
  rcases tickFails_phase h with hp | hp | hp | hp | hp | hp <;> simp [State.busy, hp]

/-- Settles O40: the flags mark the phases by the invariant, and the steps that move them are those of `step_end_cases` and
`step_enters_success`. -/
theorem doneAndOkMarkTheEnd : Obligations.DoneAndOkMarkTheEnd := by
  intro s t h hstep
  refine ⟨fun hs ht => ?_, fun hs ht => ?_, fun hs hfalls => ?_, ok_iff_of_inv h, done_iff_of_inv h⟩
  · rcases step_end_cases hstep with ⟨hsame, -⟩ | ⟨-, hclr, -⟩ | ⟨smp, rest, he, hend⟩
    · exact absurd (ht.symm.trans (hsame.trans hs)) (by decide)
    · exact absurd (ht.symm.trans hclr) (by decide)
    · obtain ⟨-, -, -, hended⟩ := tick_end_flags hend
      refine ⟨?_, hended, smp, rest, he⟩
      rcases hend with ⟨hp, -⟩ | ⟨code, i, hfails, -⟩
      · simp [State.busy, hp]
      · exact busy_of_tickFails hfails
  · have h10 : t.phase = 10 := (ok_iff_of_inv (stepKeepsInvariant s t h hstep)).mp ht
    have hne : s.phase ≠ 10 := (not_ok_iff_of_inv h).mp hs
    obtain ⟨hp, hsum, -⟩ := step_enters_success h hstep hne h10
    exact ⟨hp, h10, hsum⟩
  · rcases hfalls with ht | ⟨hs', ht⟩
    · exact step_done_falls hstep hs ht
    · exact step_ok_falls h hstep hs' ht

/-- In SUCCESS an event's row that stays there keeps the frame. -/
theorem effect_success_keeps_shreg {s t : State} {i : Instr} (he : Effect s i t) (hrow : i.runsIn s.phase = true)
    (h10 : s.phase = 10) (h10' : t.phase = 10) : t.shreg = s.shreg := by
  cases he with
  | nothing | reject | writeCtrl | read | lowCounts | highCounts | waits | putOut => rfl
  | start => exact absurd h10' (by decide : Phase.prep ≠ 10)
  | clear | reset => exact absurd h10' (by decide : Phase.idle ≠ 10)
  | timesOut | checksumFails => exact absurd h10' (by decide : Phase.failure ≠ 10)
  | shiftIn => exact absurd hrow Bool.false_ne_true
  | _ => exact absurd (h10.symm.trans (of_decide_eq_true hrow)) (by decide)

theorem step_success_keeps_shreg {s t : State} (hstep : step s = .next t) (h10 : s.phase = 10) (h10' : t.phase = 10) :
    t.shreg = s.shreg := by
  rcases step_effect hstep with ⟨-, rfl⟩ | ⟨rest, i, -, hrow, heff⟩
  · rfl
  · exact effect_success_keeps_shreg (s := s.withEvents rest) heff hrow h10 h10'

/-- The three data registers read alike in states that agree on `ok` and the frame. -/
theorem dataRegister_congr {s t : State} (hok : t.ok = s.ok) (hshreg : t.shreg = s.shreg) {idx : BitVec 3}
    (hidx : idx = 3 ∨ idx = 4 ∨ idx = 5) : t.rdval idx = s.rdval idx := by
  rcases hidx with rfl | rfl | rfl
  · rw [rdval_three, rdval_three, hok, hshreg]
  · rw [rdval_four, rdval_four, hok, hshreg]
  · rw [rdval_five, rdval_five, hok, hshreg]

theorem dataRegister_of_not_ok {s : State} (h : s.ok = false) {idx : BitVec 3} (hidx : idx = 3 ∨ idx = 4 ∨ idx = 5) :
    s.rdval idx = 0 := by
  obtain ⟨h₃, h₄, h₅⟩ := dataRegisters_of_not_ok h
  rcases hidx with rfl | rfl | rfl <;> assumption

/-- Settles O39: by `ok` before and after the step; without `ok` a data register reads 0, and with it on both sides the step
stays in SUCCESS. -/
theorem resultIsStable : Obligations.ResultIsStable := by
  intro s t h hstep hreset
  have ht := stepKeepsInvariant s t h hstep
  refine ⟨fun idx hidx hne => ?_, fun h10 hne => ?_⟩
  · cases hs : s.ok <;> cases ht' : t.ok
    · exact absurd ((dataRegister_of_not_ok hs hidx).trans (dataRegister_of_not_ok ht' hidx).symm) hne
    · have h10 := (ok_iff_of_inv ht).mp ht'
      obtain ⟨hp, -, hkept⟩ := step_enters_success h hstep ((not_ok_iff_of_inv h).mp hs) h10
      exact .inl ⟨hp, h10, dataRegister_of_not_ok hs hidx, hkept, rfl⟩
    · obtain ⟨hcmd, hidle⟩ := (step_ok_falls h hstep hs ht').resolve_right hreset
      exact .inr ⟨hcmd, hidle, dataRegister_of_not_ok ht' hidx⟩
    · have hkept := step_success_keeps_shreg hstep ((ok_iff_of_inv h).mp hs) ((ok_iff_of_inv ht).mp ht')
      exact absurd (dataRegister_congr (ht'.trans hs.symm) hkept hidx).symm hne
  · have hs : s.ok = true := (ok_iff_of_inv h).mpr h10
    have ht' : t.ok = false := (not_ok_iff_of_inv ht).mpr hne
    obtain ⟨hcmd, -⟩ := (step_ok_falls h hstep hs ht').resolve_right hreset
    exact hcmd

/-! ## The result a host reads -/

/-- STATUS's bits `done` and `ok` (R77). -/
theorem status_flags (s : State) : (s.rdval 2).getLsbD 1 = s.done ∧ (s.rdval 2).getLsbD 2 = s.ok := by
  change s.statusWord.getLsbD 1 = s.done ∧ s.statusWord.getLsbD 2 = s.ok
  simp [State.statusWord, boolWord]

/-- A field above the lowest bit of a word. -/
theorem extractLsb'_append_bit {n start len : Nat} (hi : BitVec n) (lo : BitVec 1) :
    (hi ++ lo).extractLsb' (start + 1) len = hi.extractLsb' start len := by
  rw [BitVec.extractLsb'_append_eq_of_le (Nat.le_add_left 1 start), Nat.add_sub_cancel]

/-- STATUS's error fields (R77). -/
theorem status_error (s : State) :
    (s.rdval 2).extractLsb' 4 4 = s.errcode ∧ (s.rdval 2).extractLsb' 8 6 = s.errbit := by
  have hup (start len : Nat) : (s.rdval 2).extractLsb' (start + 1 + 1 + 1 + 1) len
      = (0#12 ++ s.phase ++ 0#2 ++ s.errbit ++ s.errcode).extractLsb' start len := by
    rw [rdval_two]
    exact (extractLsb'_append_bit _ _).trans <| (extractLsb'_append_bit _ _).trans <|
      (extractLsb'_append_bit _ _).trans (extractLsb'_append_bit _ _)
  refine ⟨(hup 0 4).trans BitVec.extractLsb'_append_eq_right, (hup 4 6).trans ?_⟩
  exact (BitVec.extractLsb'_append_eq_of_le (by decide)).trans BitVec.extractLsb'_append_eq_right

/-- The codes 1 to 6 are the codes of the six error kinds (R170). -/
theorem errKindOf_errCode : ∀ code : BitVec 4, 1 ≤ code.toNat → code.toNat ≤ 6 → (errKindOf code).map errCode = some code := by
  decide

/-- In FAILURE `errcode` is the code of an error kind (R31, R170). -/
theorem errKindOf_of_failure {s : State} (h : s.Inv) (h11 : s.phase = 11) :
    ∃ kind, errKindOf s.errcode = some kind ∧ errCode kind = s.errcode := by
  obtain ⟨-, -, -, -, -, herr, -⟩ := h
  rw [State.errOk, if_pos h11, Bool.and_eq_true, Bool.and_eq_true, decide_eq_true_eq, decide_eq_true_eq] at herr
  obtain ⟨⟨hlo, hhi⟩, -⟩ := herr
  exact Option.map_eq_some_iff.mp (errKindOf_errCode s.errcode hlo hhi)

/-- Settles O43: STATUS shows `done`, `ok` and the error fields, READING the two bytes, and in FAILURE the code has a kind. -/
theorem hostReadsTheResult : Obligations.HostReadsTheResult := by
  intro s h
  obtain ⟨hdone, hok⟩ := status_flags s
  obtain ⟨hcode, hbit⟩ := status_error s
  rw [hostResult, hdone, hok, hcode, hbit]
  refine ⟨fun hs => ?_, fun hs hs' => ?_, fun hs hs' => ?_⟩
  · simp [hs]
  · obtain ⟨hhum, htemp, -⟩ := reading_lanes hs'
    rw [hs, hs', hhum, htemp]
    rfl
  · have h11 : s.phase = 11 := ((done_iff_of_inv h).mp hs).resolve_left ((not_ok_iff_of_inv h).mp hs')
    obtain ⟨kind, hkind, hcode'⟩ := errKindOf_of_failure h h11
    exact ⟨kind, hcode', by simp [hs, hs', hkind]⟩

end Sys2Proof.Machine

/-! What single instructions do and leave unchanged, the frame bytes of the shift register, and the proofs of the statements of
40_frame_checksum.md, 42_host_interface.md, 20_memory.md and 10_state.md on them. -/

namespace Sys2Proof

/-- The rows that leave the sequencer's registers and the result alone: no tick, no START or CLEAR, no SHIFT_IN and no RESET. -/
def Instr.keepsTransaction : Instr → Bool
  | .cmdNop | .cmdRsvd _ | .wrCtrl _ | .wrIgnored23 _ _ | .wrIgnored47 _ _ | .rd _ => true
  | .classify _ | .checksumOk | .extract => true
  | _ => false

end Sys2Proof

namespace Sys2Proof.Machine

/-! ## Frames -/

/-- The hidden timing state is moved by clock cycles, and of the instructions only by RESET (R33, R34). -/
theorem effect_keeps_hidden {i : Instr} {s t : State} (he : Effect s i t) (hreset : i ≠ .reset) :
    t.presc = s.presc ∧ t.sync1 = s.sync1 ∧ t.sync2 = s.sync2 ∧ t.draws = s.draws := by
  cases he with
  | reset => exact absurd rfl hreset
  | _ => exact ⟨rfl, rfl, rfl, rfl⟩

theorem effect_keeps_rdata {i : Instr} {s t : State} (he : Effect s i t) (hreset : i ≠ .reset) (hrd : ∀ idx, i ≠ .rd idx) :
    t.rdata = s.rdata := by
  cases he with
  | reset => exact absurd rfl hreset
  | read idx => exact absurd rfl (hrd idx)
  | _ => rfl

theorem effect_keeps_opOut {i : Instr} {s t : State} (he : Effect s i t) (hreset : i ≠ .reset)
    (hclassify : ∀ d, i ≠ .classify d) (hchecksum : i ≠ .checksumOk) (hextract : i ≠ .extract) : t.opOut = s.opOut := by
  cases he with
  | reset => exact absurd rfl hreset
  | putOut hi =>
    rcases hi with ⟨d, rfl⟩ | rfl | rfl
    · exact absurd rfl (hclassify d)
    · exact absurd rfl hchecksum
    · exact absurd rfl hextract
  | _ => rfl

theorem effect_keeps_ie {i : Instr} {s t : State} (he : Effect s i t) (hreset : i ≠ .reset) (hctrl : ∀ data, i ≠ .wrCtrl data) :
    t.ie = s.ie := by
  cases he with
  | reset => exact absurd rfl hreset
  | writeCtrl data => exact absurd rfl (hctrl data)
  | _ => rfl

theorem effect_keeps_cmderr {i : Instr} {s t : State} (he : Effect s i t) (hreset : i ≠ .reset) (hstart : i ≠ .cmdStart)
    (hclear : i ≠ .cmdClear) (hrsvd : ∀ data, i ≠ .cmdRsvd data) : t.cmderr = s.cmderr := by
  cases he with
  | reset => exact absurd rfl hreset
  | clear => exact absurd rfl hclear
  | reject hrej =>
    cases i with
    | cmdStart => exact absurd rfl hstart
    | cmdClear => exact absurd rfl hclear
    | cmdRsvd data => exact absurd rfl (hrsvd data)
    | _ => exact absurd hrej Bool.false_ne_true
  | _ => rfl

theorem effect_keeps_transaction {i : Instr} {s t : State} (he : Effect s i t) (hi : i.keepsTransaction = true) :
    t.phase = s.phase ∧ t.cnt = s.cnt ∧ t.bitIdx = s.bitIdx ∧ t.shreg = s.shreg ∧ t.done = s.done ∧ t.ok = s.ok
      ∧ t.errcode = s.errcode ∧ t.errbit = s.errbit := by
  cases he with
  | nothing | reject | writeCtrl | read | putOut => exact ⟨rfl, rfl, rfl, rfl, rfl, rfl, rfl, rfl⟩
  | waits hw | timesOut hw => cases hw <;> exact absurd hi Bool.false_ne_true
  | _ => exact absurd hi Bool.false_ne_true

/-- Settles O56: each clause is one frame of the instruction's effect. -/
theorem instructionFrames : Obligations.InstructionFrames := by
  intro i s t h
  have he := exec_effect h
  obtain ⟨hevents, hinputs, hN, h₁, h₂⟩ := exec_keeps_pending i h
  refine ⟨⟨hN, h₁, h₂, hinputs, hevents⟩, effect_keeps_hidden he, effect_keeps_rdata he, effect_keeps_opOut he,
    effect_keeps_ie he, effect_keeps_cmderr he, fun hi => effect_keeps_transaction he ?_⟩
  rcases hi with rfl | ⟨_, rfl⟩ | ⟨_, rfl⟩ | ⟨_, _, rfl⟩ | ⟨_, _, rfl⟩ | ⟨_, rfl⟩ | ⟨_, rfl⟩ | rfl | rfl <;> rfl

/-! ## Single instructions -/

/-- Settles O14: out of reset the PREP tick is `enter`, and the pad follows the phase. -/
theorem prepTick : Obligations.PrepTick := by
  intro s smp hr
  refine ⟨exec_tickPrep_out smp hr, fun hp => ?_, rfl, rfl⟩
  simp [State.lineOe, State.lineO, State.excl, hp]

theorem exec_rd_out {s : State} (hr : s.inReset = false) (idx : BitVec 3) :
    exec (.rd idx) s = .next { s with rdata := s.rdval idx } := by
  simp only [exec, execRd, State.readReg, hr, Bool.false_eq_true, if_false]

/-- Settles O29: out of reset a read puts `rdval` on the read data. -/
theorem readReturnsTheRegister : Obligations.ReadReturnsTheRegister := by
  intro s idx hr
  refine ⟨exec_rd_out hr idx, ?_, fun hok hidx => dataRegister_of_not_ok hok hidx⟩
  rintro (rfl | rfl | rfl) <;> rfl

/-- Settles O42: of the shapes of a bus access only the fault is left. -/
theorem noRegisterAboveTheLast : Obligations.NoRegisterAboveTheLast := by
  intro s write offset data rest he haligned habove
  have hw : busWord write offset 4 data = .fault (.noSuchRegister offset) := by
    rcases busWord_cases write offset 4 data with ⟨hshape, -⟩ | ⟨-, -, -, hw⟩ | ⟨-, -, hlast, -⟩
    · omega
    · exact hw
    · omega
  simp only [step, he, eventWord, hw]

/-- Without `ok` no register reads the frame (R150). -/
theorem rdval_eq_of_not_ok {s : State} (hok : s.ok = false) (idx : BitVec 3) :
    s.rdval idx = ({ s with shreg := 0 } : State).rdval idx := by
  simp only [State.rdval, State.statusWord, State.busy, State.frameLo, State.frameHi, State.reading, hok, Bool.false_eq_true,
    if_false]

/-- Settles O47: the outputs and registers read none of the hidden fields, and without `ok` not the frame. -/
theorem hiddenStateIsInvisible : Obligations.HiddenStateIsInvisible := by
  intro s cnt bitIdx shreg presc sync1 sync2
  refine ⟨⟨fun _ => rfl, rfl, rfl, rfl, rfl, rfl⟩, fun hok => ⟨fun idx => ?_, rfl, rfl, rfl, rfl, rfl⟩⟩
  exact (rdval_eq_of_not_ok hok idx).trans (rdval_eq_of_not_ok (s := { s with
    cnt := cnt, bitIdx := bitIdx, shreg := shreg, presc := presc, sync1 := sync1, sync2 := sync2 }) hok idx).symm

/-! ## Frame bytes and SHIFT_IN -/

theorem frameByte_getLsbD (shreg : BitVec 40) (k : Fin 5) {j : Nat} (hj : j < 8) :
    (frameByte shreg k).getLsbD j = shreg.getLsbD (32 - 8 * k.val + j) := by
  simp [frameByte, hj]

/-- The five lanes, one below the other, are the whole register. -/
theorem frameBytes_append_eq (shreg : BitVec 40) :
    frameByte shreg 0 ++ frameByte shreg 1 ++ frameByte shreg 2 ++ frameByte shreg 3 ++ frameByte shreg 4 = shreg := by
  have join {hi len : Nat} (lo : Nat) (h : hi = lo + 8) :
      shreg.extractLsb' hi len ++ shreg.extractLsb' lo 8 = shreg.extractLsb' lo (len + 8) :=
    BitVec.extractLsb'_append_extractLsb'_eq_extractLsb' h
  change shreg.extractLsb' 32 8 ++ shreg.extractLsb' 24 8 ++ shreg.extractLsb' 16 8 ++ shreg.extractLsb' 8 8
    ++ shreg.extractLsb' 0 8 = shreg
  rw [join 24 rfl, join 16 rfl, join 8 rfl, join 0 rfl]
  exact BitVec.extractLsb'_eq_self

/-- Settles O48: each byte is a lane of `shreg`, and lane below lane they make it up. -/
theorem frameBytesOfTheShiftRegister : Obligations.FrameBytesOfTheShiftRegister :=
  fun shreg => ⟨fun k _ hj => frameByte_getLsbD shreg k hj, frameBytes_append_eq shreg⟩

/-- The bits `0` to `n - 1` shifted in, the first one first (R102). -/
def shiftedIn (bits : Nat → Bool) (n : Nat) : BitVec 40 :=
  (List.range n).foldl (fun sh j => shiftInBit sh (bits j)) 0

theorem shiftedIn_succ (bits : Nat → Bool) (n : Nat) : shiftedIn bits (n + 1) = shiftInBit (shiftedIn bits n) (bits n) := by
  rw [shiftedIn, List.range_succ, List.foldl_append]
  rfl

theorem shiftInBit_getLsbD_zero (r : BitVec 40) (b : Bool) : (shiftInBit r b).getLsbD 0 = b := by
  cases b <;> simp [shiftInBit_eq]

theorem shiftInBit_getLsbD_succ (r : BitVec 40) (b : Bool) {j : Nat} (hj : j + 1 < 40) :
    (shiftInBit r b).getLsbD (j + 1) = r.getLsbD j := by
  have hlow : r.getLsbD j = r[j] := BitVec.getLsbD_eq_getElem (by omega)
  cases b <;> simp [shiftInBit_eq, hj, hlow]

/-- The last bit shifted in is the lowest, and the one before it the next. -/
theorem shiftedIn_getLsbD (bits : Nat → Bool) {n j : Nat} (hn : j < n) (hj : j < 40) :
    (shiftedIn bits n).getLsbD j = bits (n - 1 - j) := by
  induction n generalizing j with
  | zero => omega
  | succ n ih =>
    rw [shiftedIn_succ]
    cases j with
    | zero => exact shiftInBit_getLsbD_zero _ _
    | succ j =>
      rw [shiftInBit_getLsbD_succ _ _ hj, ih (by omega) (by omega)]
      exact congrArg bits (by omega)

/-- Settles O49: SHIFT_IN is the shift of R102, and of 40 bits shifted in number `i` is bit `39 - i` of `shreg`. -/
theorem shiftInOrdersTheFrame : Obligations.ShiftInOrdersTheFrame := by
  refine ⟨fun s b hr => ?_, fun bits i k hi hk => ?_⟩
  · rw [← shiftInBit_eq]
    exact congrArg Host.Outcome.next (outsideReset_out _ hr)
  · rw [frameByte_getLsbD _ _ (by omega), ← shiftedIn, shiftedIn_getLsbD bits (by omega) (by omega)]
    exact congrArg bits (by omega)

theorem boolWord_eq (b : Bool) : boolWord b = if b = true then 1 else 0 := by
  cases b <;> rfl

/-- Settles O51: the value each operation puts out. -/
theorem internalOperationsGiveTheirValue : Obligations.InternalOperationsGiveTheirValue := by
  intro s
  refine ⟨fun d => ?_, ⟨_, rfl, rfl, fun hsum => ?_, fun hsum => ?_⟩, ⟨_, rfl, rfl, rdval_five_toNat (s := s), fun hok => ?_⟩⟩
  · have hbit : boolWord (classifyBit d.toNat) = if 30 < d.toNat then 1 else 0 := by
      simp only [boolWord_eq, classifyBit, decide_eq_true_eq]
      rfl
    exact congrArg (fun v => Host.Outcome.next (s.putOut v)) hbit
  · rw [← checksumGood_iff_sumHolds] at hsum
    exact (boolWord_eq _).trans (if_pos hsum)
  · rw [← checksumGood_iff_sumHolds] at hsum
    exact (boolWord_eq _).trans (if_neg hsum)
  · obtain ⟨-, -, h₅⟩ := dataRegisters_of_not_ok hok
    exact h₅

end Sys2Proof.Machine

/-! The clock cycle, the prescaler's period, and the proofs of the statements of 10_state.md and 20_memory.md on the clock. -/

namespace Sys2Proof.Machine

/-! ## One clock cycle -/

theorem nextInput_of_listed {s : State} {c : CycleIn} {rest : List CycleIn} (h : s.inputs = c :: rest) : s.nextInput = c := by
  simp only [State.nextInput, h]

theorem tick_mem_cycleEvents (tick : Option Bool) (host : Option (BitVec 36)) (smp : Bool) :
    .tick smp ∈ cycleEvents tick host ↔ tick = some smp := by
  cases host with
  | none => cases tick <;> simp [cycleEvents, eq_comm]
  | some w => cases tick <;> cases hw : htWrite w <;> simp [cycleEvents, hw, eq_comm]

theorem tick_not_mem_resetEvents (host : Option (BitVec 36)) (smp : Bool) : .tick smp ∉ resetEvents host := by
  cases host with
  | none => simp [resetEvents]
  | some w => cases hw : htWrite w <;> simp [resetEvents, hw]

theorem tickDue_iff (s : State) : s.tickDue = true ↔ s.presc + 1 = Config.clkPerTick := by
  simp [State.tickDue]

theorem clockCycle_events_out {s : State} (hr : s.cycleInReset = false) :
    s.clockCycle.events = cycleEvents (if s.tickDue then some s.sync2 else none) s.nextInput.host := by
  rw [State.clockCycle_events, hr]
  rfl

/-- Out of reset the cycle in which the prescaler is full holds the tick (R33). -/
theorem clockCycle_due {s : State} (hr : s.cycleInReset = false) (h : s.presc + 1 = Config.clkPerTick) :
    s.clockCycle.presc = 0 ∧ s.clockCycle.events = cycleEvents (some s.sync2) s.nextInput.host := by
  have hdue := (tickDue_iff s).mpr h
  rw [clockCycle_events_out hr, State.clockCycle_presc, hr, hdue]
  exact ⟨rfl, rfl⟩

/-- Every other cycle counts, and holds none (R33). -/
theorem clockCycle_not_due {s : State} (hr : s.cycleInReset = false) (h : s.presc + 1 ≠ Config.clkPerTick) :
    s.clockCycle.presc = s.presc + 1 ∧ s.clockCycle.events = cycleEvents none s.nextInput.host := by
  have hdue : s.tickDue = false := Bool.eq_false_iff.mpr (mt (tickDue_iff s).mp h)
  rw [clockCycle_events_out hr, State.clockCycle_presc, hr, hdue]
  exact ⟨rfl, rfl⟩

/-- Settles O53: the cycle with the tick, every other cycle, RESET, the frame of the instructions and that of a cycle. -/
theorem prescalerMakesTheTick : Obligations.PrescalerMakesTheTick := by
  refine ⟨fun s he hr => ⟨_, step_of_no_event he, fun h => ?_, fun h => ?_⟩, fun s => ⟨_, rfl, rfl⟩, fun i s t hi h => ?_,
    fun s he => ⟨_, step_of_no_event he, rfl, rfl, rfl, rfl, rfl, rfl, rfl, rfl, rfl, rfl, rfl, rfl⟩⟩
  · obtain ⟨hpresc, hevents⟩ := clockCycle_due hr h
    exact ⟨hpresc, hevents ▸ (tick_mem_cycleEvents _ _ _).mpr rfl⟩
  · obtain ⟨hpresc, hevents⟩ := clockCycle_not_due hr h
    refine ⟨hpresc, fun smp hmem => ?_⟩
    rw [hevents, tick_mem_cycleEvents] at hmem
    exact nomatch hmem
  · obtain ⟨hpresc, -⟩ := effect_keeps_hidden (exec_effect h) hi
    exact hpresc

/-- Settles O55: a cycle shifts the stages, and the only tick it holds has the second stage for its sample. -/
theorem synchroniserDelaysTwoCycles : Obligations.SynchroniserDelaysTwoCycles := by
  refine fun s smp => ⟨rfl, fun hmem => ?_⟩
  cases hr : s.cycleInReset
  · rw [clockCycle_events_out hr, tick_mem_cycleEvents] at hmem
    split at hmem
    · exact (Option.some.inj hmem).symm
    · exact nomatch hmem
  · rw [State.clockCycle_events, if_pos hr] at hmem
    exact absurd hmem (tick_not_mem_resetEvents _ _)

/-! ## A tick and a host access in one cycle -/

theorem runSteps_one (s : State) : runSteps 1 s = step s := by
  rw [runSteps_succ]
  cases step s <;> rfl

theorem withEvents_eq_self {s : State} {es : List Event} (h : s.events = es) : s.withEvents es = s := by
  rw [← h]
  rfl

/-- A pending read and then a tick. -/
theorem runSteps_read_tick {u : State} (hr : u.inReset = false) {w : BitVec 36} (hw : htWrite w = false) (smp : Bool) :
    runSteps 2 (u.withEvents [.host w, .tick smp])
      = exec (decodePH (phWord u.phase smp)) ({ u with rdata := u.rdval (htIdx w) }.withEvents []) := by
  rw [runSteps_succ, step_host, decodeHT_read hw, exec_rd_out (s := u.withEvents [.tick smp]) hr]
  exact runSteps_one _

/-- A pending tick and then a host transaction. -/
theorem runSteps_tick_host (u : State) (smp : Bool) (w : BitVec 36) :
    runSteps 2 (u.withEvents [.tick smp, .host w])
      = andThen (exec (decodePH (phWord u.phase smp)) (u.withEvents [])) (exec (decodeHT w)) := by
  rw [runSteps_succ, step_tick, exec_withEvents, exec_withEvents]
  cases exec (decodePH (phWord u.phase smp)) u with
  | next v => exact runSteps_one _
  | fault f => rfl
  | refused r => rfl

/-- Settles O52: the cycle lists the read before the tick and the write after it, and each is then performed in turn. -/
theorem sameCycleOrder : Obligations.SameCycleOrder := by
  intro s c rest w he hin hhost hn h₁ h₂ hdue
  have hnext := nextInput_of_listed hin
  have hr : s.cycleInReset = false := by simp [State.cycleInReset, hnext, hn, h₂]
  have hout : s.clockCycle.inReset = false := by simp [State.inReset, hnext, hn, h₁]
  obtain ⟨-, hevents⟩ := clockCycle_due hr hdue
  rw [hnext, hhost] at hevents
  have hrun : runSteps 3 s = runSteps 2 s.clockCycle := by
    rw [runSteps_succ, step_of_no_event he]
    rfl
  rw [hrun]
  refine ⟨fun hw => ?_, fun hw => ?_⟩
  · rw [cycleEvents_read _ hw] at hevents
    rw [← withEvents_eq_self hevents]
    exact runSteps_read_tick hout hw s.sync2
  · rw [cycleEvents_write _ hw] at hevents
    rw [← withEvents_eq_self hevents]
    exact runSteps_tick_host s.clockCycle s.sync2 w

/-! ## From one tick to the next -/

/-- `n` steps lead from `s` to `t`, and no tick is pending on the way. -/
def quietRun (n : Nat) (s t : State) : Prop :=
  runSteps n s = .next t ∧ ∀ k, k ≤ n → ∃ v, runSteps k s = .next v ∧ ∀ smp, .tick smp ∉ v.events

theorem quietRun_zero {s : State} (h : ∀ smp, .tick smp ∉ s.events) : quietRun 0 s s := by
  refine ⟨rfl, fun k hk => ⟨s, ?_, h⟩⟩
  rw [Nat.le_zero.mp hk]
  rfl

theorem quietRun_succ {n : Nat} {s u t : State} (h : ∀ smp, .tick smp ∉ s.events) (hstep : step s = .next u)
    (hrun : quietRun n u t) : quietRun (n + 1) s t := by
  obtain ⟨hend, hquiet⟩ := hrun
  refine ⟨by rw [runSteps_succ, hstep]; exact hend, fun k hk => ?_⟩
  cases k with
  | zero => exact ⟨s, rfl, h⟩
  | succ k =>
    rw [runSteps_succ, hstep]
    exact hquiet k (by omega)

/-- The block is out of reset and between two cycles, with `cycles` the next ones listed. -/
def State.runsFreely (s : State) (cycles : List CycleIn) : Prop :=
  s.events = [] ∧ s.inputs = cycles ∧ s.rstS1 = true ∧ s.rstS2 = true

/-- A cycle before the tick's own, with its host access if there is one: one step or two, and no tick. -/
theorem quiet_cycle {s : State} {c : CycleIn} {rest : List CycleIn} (hs : s.runsFreely (c :: rest)) (hn : c.rstN = true)
    (hp : s.presc + 1 ≠ Config.clkPerTick) :
    ∃ u, u.runsFreely rest ∧ u.presc = s.presc + 1 ∧ (c.host = none → u.phase = s.phase)
      ∧ ∀ n t, quietRun n u t → quietRun (n + 1 + if c.host.isSome then 1 else 0) s t := by
  obtain ⟨he, hin, h₁, h₂⟩ := hs
  have hnext := nextInput_of_listed hin
  have hr : s.cycleInReset = false := by simp [State.cycleInReset, hnext, hn, h₂]
  obtain ⟨hpresc, hevents⟩ := clockCycle_not_due hr hp
  have hfree : s.clockCycle.inputs = rest ∧ s.clockCycle.rstS1 = true ∧ s.clockCycle.rstS2 = true := by
    simp [hin, hnext, hn, h₁]
  rw [hnext] at hevents
  have hquiet : ∀ smp, .tick smp ∉ s.events := by simp [he]
  cases hhost : c.host with
  | none =>
    rw [hhost] at hevents
    exact ⟨s.clockCycle, ⟨hevents, hfree⟩, hpresc, fun _ => rfl, fun n t => quietRun_succ hquiet (step_of_no_event he)⟩
  | some w =>
    have hevents' : s.clockCycle.events = [.host w] := by
      rw [hevents, hhost]
      cases hw : htWrite w <;> simp [cycleEvents, hw]
    obtain ⟨u, hu, hupresc⟩ := exec_decodeHT_next (s.clockCycle.withEvents []) w
    obtain ⟨hue, hui, -, hu₁, hu₂⟩ := exec_keeps_pending _ hu
    have hstep : step s.clockCycle = .next u := by
      rw [step_of_nextInstr (nextInstr_of_event hevents' rfl rfl), hevents']
      exact hu
    refine ⟨u, ⟨hue, ?_⟩, hupresc.trans hpresc, (nomatch ·), fun n t hrun => ?_⟩
    · rw [hui, hu₁, hu₂]
      exact hfree
    · have hhosts : ∀ smp, .tick smp ∉ s.clockCycle.events := by
        rw [hevents']
        simp
      exact quietRun_succ hquiet (step_of_no_event he) (quietRun_succ hhosts hstep hrun)

/-- The cycles before the tick's own, by induction on them. -/
theorem quiet_cycles (cycles : List CycleIn) {rest : List CycleIn} : ∀ {s : State}, s.runsFreely (cycles ++ rest) →
    (∀ c, c ∈ cycles → c.rstN = true) → s.presc + cycles.length + 1 = Config.clkPerTick →
    ∃ t, quietRun (cycles.length + cycles.countP (·.host.isSome)) s t ∧ t.runsFreely rest
      ∧ t.presc + 1 = Config.clkPerTick ∧ ((∀ c, c ∈ cycles → c.host = none) → t.phase = s.phase) := by
  induction cycles with
  | nil =>
    intro s hs _ hp
    obtain ⟨he, -⟩ := id hs
    exact ⟨s, quietRun_zero (by simp [he]), hs, hp, fun _ => rfl⟩
  | cons c cycles ih =>
    intro s hs hn hp
    rw [List.length_cons] at hp
    obtain ⟨u, hu, hupresc, huphase, hrun⟩ := quiet_cycle hs (hn c List.mem_cons_self) (by omega)
    obtain ⟨t, ht, hfree, htpresc, htphase⟩ := ih hu (fun d hd => hn d (List.mem_cons_of_mem c hd)) (by omega)
    refine ⟨t, ?_, hfree, htpresc, fun hidle => ?_⟩
    · rw [List.length_cons, List.countP_cons]
      convert hrun _ _ ht using 1
      omega
    · rw [htphase fun d hd => hidle d (List.mem_cons_of_mem c hd), huphase (hidle c List.mem_cons_self)]

/-- Settles O54: the cycles before the tick's own run without a tick, and the prescaler is then full. -/
theorem tickWithinOnePeriod : Obligations.TickWithinOnePeriod := by
  intro s cycles rest last he hin hstages h₂ hn hlast hp
  obtain ⟨hfill, -⟩ := hstages
  obtain ⟨t, ⟨hrun, hquiet⟩, ⟨hte, htin, ht₁, ht₂⟩, htp, hphase⟩ := quiet_cycles cycles ⟨he, hin, hfill h₂, h₂⟩ hn hp
  have hnext := nextInput_of_listed htin
  have hr : t.cycleInReset = false := by simp [State.cycleInReset, hnext, hlast, ht₂]
  obtain ⟨hpresc, hevents⟩ := clockCycle_due hr htp
  rw [hnext] at hevents
  refine ⟨t, t.clockCycle, hrun, hte, hquiet, hphase, step_of_no_event hte, ?_, fun hhost => ?_, ?_, hpresc, rfl, by omega⟩
  · exact hevents ▸ (tick_mem_cycleEvents _ _ _).mpr rfl
  · rw [hevents, hhost]
    rfl
  · rw [State.clockCycle_inputs, htin]
    rfl

end Sys2Proof.Machine

/-! Runs of samples: rest, timeouts, the measure of a high phase, and a whole frame on the line; the proofs of the statements of
41_protocol_phases.md and 40_frame_checksum.md on runs of ticks. -/

namespace Sys2Proof.Machine

/-! ## Rest and timeouts -/

/-- At rest no sample counts (R206). -/
theorem runTicks_atRest {s : State} (h : s.atRest = true) (samples : List Bool) :
    runTicks samples s = .next (s.withEvents []) := by
  induction samples with
  | nil => rfl
  | cons smp rest ih =>
    rw [runTicks_cons, exec_tick_atRest h]
    exact ih

/-- Settles O25: by induction on the samples. -/
theorem restingBlockIgnoresTheLine : Obligations.RestingBlockIgnoresTheLine :=
  fun _ samples h => runTicks_atRest h samples

/-- Settles O24: the tick fails, and FAILURE is a phase of rest. -/
theorem nothingAfterATimeoutMatters : Obligations.NothingAfterATimeoutMatters := by
  intro s level code i later hr hw hc
  rw [runTicks_cons, exec_tick_waits_same hr hw, if_neg (by simp [hc])]
  exact runTicks_atRest rfl later

/-! ## One run of a level in its wait phase -/

/-- A transaction of the block `r` between two ticks, with these registers of the sequencer. -/
def State.running (r : State) (p : BitVec 4) (c : Nat) (i : BitVec 6) (sh : BitVec 40) : State :=
  { r with phase := p, cnt := BitVec.ofNat 15 c, bitIdx := i, shreg := sh, events := [] }

theorem running_cnt (r : State) (p : BitVec 4) {c : Nat} (i : BitVec 6) (sh : BitVec 40) (hc : c ≤ 100) :
    (r.running p c i sh).cnt.toNat = c :=
  Nat.mod_eq_of_lt (by omega : c < 2 ^ 15)

theorem runTicks_append_of_next {l m : List Bool} {s t : State} (h : runTicks l s = .next t) :
    runTicks (l ++ m) s = runTicks m t := by
  rw [runTicks_append, h]
  rfl

/-- A run of `n` samples at the waited level counts them. -/
theorem runTicks_running {r : State} (hr : r.inReset = false) {p : BitVec 4} {i : BitVec 6} {sh : BitVec 40} {level : Bool}
    {code : BitVec 4} {idx : BitVec 6} (n : Nat) : ∀ c, c + n ≤ 100 → Claims.waits (r.running p c i sh) level code idx →
    runTicks (List.replicate n level) (r.running p c i sh) = .next (r.running p (c + n) i sh) := by
  induction n with
  | zero => exact fun _ _ _ => rfl
  | succ n ih =>
    intro c hc hw
    have hcount : (r.running p c i sh).count = r.running p (c + 1) i sh := by
      rw [State.count, State.running, State.running, BitVec.ofNat_add]
      rfl
    have hcnt := running_cnt r p i sh (show c ≤ 100 by omega)
    rw [List.replicate_succ, runTicks_cons, exec_tick_waits_same (s := r.running p c i sh) hr hw, if_pos (by omega), hcount,
      Nat.add_comm n 1, ← Nat.add_assoc]
    exact ih (c + 1) (by omega) hw

/-- A run whose first sample enters the wait phase: `n` samples at its level are counted as `n`. -/
theorem runTicks_entering {r w : State} (hr : r.inReset = false) {p : BitVec 4} {i : BitVec 6} {sh : BitVec 40} {level : Bool}
    {code : BitVec 4} {idx : BitVec 6} (hw : Claims.waits (r.running p 1 i sh) level code idx)
    (henter : exec (decodePH (phWord w.phase level)) w = .next (r.running p 1 i sh)) {n : Nat} (hn : 1 ≤ n) (hn' : n ≤ 100) :
    runTicks (List.replicate n level) w = .next (r.running p n i sh) := by
  obtain ⟨k, rfl⟩ := Nat.exists_eq_add_of_le hn
  rw [Nat.add_comm, List.replicate_succ, runTicks_cons, henter, Nat.add_comm]
  exact runTicks_running hr k 1 hn' hw

/-! ## The samples that end a run -/

theorem tick_ends_ack1 {r : State} (hr : r.inReset = false) (c : Nat) (i : BitVec 6) (sh : BitVec 40) :
    exec (decodePH (phWord (r.running 4 c i sh).phase false)) (r.running 4 c i sh) = .next (r.running 5 1 i sh) := by
  obtain ⟨h, -, -, hd, -⟩ := handshakeTicks (r.running 4 c i sh) false hr
  exact (congrArg (exec · _) hd).trans h

theorem tick_ends_ack2 {r : State} (hr : r.inReset = false) (c : Nat) (i : BitVec 6) (sh : BitVec 40) :
    exec (decodePH (phWord (r.running 5 c i sh).phase true)) (r.running 5 c i sh) = .next (r.running 6 1 i sh) := by
  obtain ⟨-, h, -, -, hd, -⟩ := handshakeTicks (r.running 5 c i sh) true hr
  exact (congrArg (exec · _) hd).trans h

theorem tick_ends_ack3 {r : State} (hr : r.inReset = false) (c : Nat) (i : BitVec 6) (sh : BitVec 40) :
    exec (decodePH (phWord (r.running 6 c i sh).phase false)) (r.running 6 c i sh) = .next (r.running 7 1 0 sh) := by
  obtain ⟨-, -, h, -, -, hd⟩ := handshakeTicks (r.running 6 c i sh) false hr
  exact (congrArg (exec · _) hd).trans h

theorem tick_ends_bitLow {r : State} (hr : r.inReset = false) (c : Nat) (i : BitVec 6) (sh : BitVec 40) :
    exec (decodePH (phWord (r.running 7 c i sh).phase true)) (r.running 7 c i sh) = .next (r.running 8 1 i sh) := by
  obtain ⟨h, -, hd, -⟩ := bitTicks (r.running 7 c i sh) true hr
  exact (congrArg (exec · _) hd).trans h

/-- The sample that ends a high phase of `c` ticks shifts in what `c` says (R130, R131). -/
theorem tick_ends_bitHigh {r : State} (hr : r.inReset = false) {c : Nat} (hc : c ≤ 100) (i : BitVec 6) (sh : BitVec 40) :
    exec (decodePH (phWord (r.running 8 c i sh).phase false)) (r.running 8 c i sh)
      = .next (if i = 39 then r.running 9 0 i (shiftInBit sh (decide (30 < c)))
          else r.running 7 1 (i + 1) (shiftInBit sh (decide (30 < c)))) := by
  have hbit : classifyBit (r.running 8 c i sh).cnt.toNat = decide (30 < c) := by
    rw [running_cnt r 8 i sh hc]
    rfl
  have hdone : exec (decodePH (phWord 8 false)) (r.running 8 c i sh) = .next (r.running 8 c i sh).bitDone :=
    (congrArg (exec · _) (decodePH_phWord 8 false)).trans (congrArg Host.Outcome.next (outsideReset_out _ hr))
  refine hdone.trans (congrArg Host.Outcome.next ?_)
  by_cases hi : i = 39
  · rw [bitDone_last (s := r.running 8 c i sh) hi, hbit, if_pos hi]
    rfl
  · rw [bitDone_next (s := r.running 8 c i sh) hi, hbit, if_neg hi]
    rfl

/-- Settles O23: the rise starts the count at 1, the run counts to `n`, and the fall classifies `n`. -/
theorem highTimeIsMeasuredExactly : Obligations.HighTimeIsMeasuredExactly := by
  intro s n hr hp hn hn'
  have hrise : exec (decodePH (phWord (s.withEvents []).phase true)) (s.withEvents [])
      = .next (s.running 8 1 s.bitIdx s.shreg) := by
    obtain ⟨h, -, hd, -⟩ := bitTicks (s.withEvents []) true hr
    rw [State.withEvents_phase, hp, hd, h]
    rfl
  have hw : Claims.waits (s.running 8 1 s.bitIdx s.shreg) true 5 s.bitIdx := .inr (.inr (.inr (.inr ⟨rfl, rfl, rfl, rfl⟩)))
  calc
    runTicks (List.replicate n true ++ [false]) s = runTicks (List.replicate n true ++ [false]) (s.withEvents []) := rfl
    _ = runTicks [false] (s.running 8 n s.bitIdx s.shreg) := runTicks_append_of_next (runTicks_entering hr hw hrise hn hn')
    _ = _ := by
      rw [runTicks_cons, tick_ends_bitHigh hr hn']
      split <;> rfl

/-! ## A whole frame -/

/-- Where a transaction stands when bit `n` begins, or CHECKSUM after the last one. -/
def State.atBit (r : State) (n : Nat) (sh : BitVec 40) : State :=
  if n = 40 then r.running 9 0 39 sh else r.running 7 1 (BitVec.ofNat 6 n) sh

theorem atBit_of_lt (r : State) {n : Nat} (hn : n < 40) (sh : BitVec 40) :
    r.atBit n sh = r.running 7 1 (BitVec.ofNat 6 n) sh :=
  if_neg (by omega)

/-- The sample that ends the high phase of bit `n` begins bit `n + 1`. -/
theorem tick_ends_bit {r : State} (hr : r.inReset = false) {c n : Nat} (hc : c ≤ 100) (hn : n < 40) (sh : BitVec 40) :
    exec (decodePH (phWord (r.running 8 c (BitVec.ofNat 6 n) sh).phase false)) (r.running 8 c (BitVec.ofNat 6 n) sh)
      = .next (r.atBit (n + 1) (shiftInBit sh (decide (30 < c)))) := by
  rw [tick_ends_bitHigh hr hc]
  by_cases hlast : n = 39
  · subst hlast
    rfl
  · have hi : BitVec.ofNat 6 n ≠ 39 := by
      intro h
      have := congrArg BitVec.toNat h
      simp at this
      omega
    rw [if_neg hi, atBit_of_lt r (by omega), BitVec.ofNat_add]
    rfl

/-- The runs of the first `n` bits leave the block where a low sample begins bit `n`, with these bits shifted in. -/
theorem runTicks_bitRuns {r : State} (hr : r.inReset = false) {low high : Nat → Nat} {bits : Nat → Bool}
    (hruns : ∀ i, i < 40 → 1 ≤ low i ∧ low i ≤ 100 ∧ 1 ≤ high i ∧ high i ≤ 100 ∧ (30 < high i ↔ bits i = true)) (c : Nat) :
    ∀ n, n ≤ 40 → ∃ w, runTicks (bitRuns low high n) (r.running 6 c 0 0) = .next w
      ∧ exec (decodePH (phWord w.phase false)) w = .next (r.atBit n (shiftedIn bits n)) := by
  intro n
  induction n with
  | zero => exact fun _ => ⟨_, rfl, tick_ends_ack3 hr c 0 0⟩
  | succ n ih =>
    intro hn
    obtain ⟨w, hrun, hlow⟩ := ih (by omega)
    obtain ⟨hl, hl', hh, hh', hbit⟩ := hruns n (by omega)
    rw [atBit_of_lt r (by omega)] at hlow
    have hbit' : decide (30 < high n) = bits n := by
      rw [Bool.eq_iff_iff, decide_eq_true_eq, hbit]
    refine ⟨r.running 8 (high n) (BitVec.ofNat 6 n) (shiftedIn bits n), ?_, ?_⟩
    · have hw₇ : Claims.waits (r.running 7 1 (BitVec.ofNat 6 n) (shiftedIn bits n)) false 4 (BitVec.ofNat 6 n) :=
        .inr (.inr (.inr (.inl ⟨rfl, rfl, rfl, rfl⟩)))
      have hw₈ : Claims.waits (r.running 8 1 (BitVec.ofNat 6 n) (shiftedIn bits n)) true 5 (BitVec.ofNat 6 n) :=
        .inr (.inr (.inr (.inr ⟨rfl, rfl, rfl, rfl⟩)))
      rw [bitRuns, runTicks_append_of_next hrun, lineRuns, runTicks_append_of_next (runTicks_entering hr hw₇ hlow hl hl'),
        lineRuns, lineRuns, List.append_nil]
      exact runTicks_entering hr hw₈ (tick_ends_bitLow hr _ _ _) hh hh'
    · rw [tick_ends_bit hr hh' (by omega), hbit', ← shiftedIn_succ]

/-- A START and the start pulse, and then the samples that follow, from ACK1 with everything else at 0 (R125). -/
theorem runStart_release {s : State} (hr : s.inReset = false) (hidle : s.busy = false) {drive : List Bool}
    (hlen : drive.length = 18031) (samples : List Bool) :
    runStart (drive ++ samples) s = runTicks samples ((s.restart Phase.prep).running 4 0 0 0) := by
  have happend : runStart (drive ++ samples) s = andThen (runStart drive s) (runTicks samples) := by
    rw [runStart_eq, runStart_eq, andThen_assoc]
    exact congrArg _ (funext (runTicks_append drive samples))
  rw [happend, runStart_startPulse hr hidle hlen.le, hlen, startPulse_release]
  rfl

/-- A well-formed handshake and the runs of 40 bits, up to CHECKSUM and its tick. -/
theorem runTicks_frame {r : State} (hr : r.inReset = false) {low high : Nat → Nat} {bits : Nat → Bool} {a b c : Nat}
    (ha : a ≤ 100) (hb : 1 ≤ b) (hb' : b ≤ 100) (hc : 1 ≤ c) (hc' : c ≤ 100)
    (hruns : ∀ i, i < 40 → 1 ≤ low i ∧ low i ≤ 100 ∧ 1 ≤ high i ∧ high i ≤ 100 ∧ (30 < high i ↔ bits i = true)) (last : Bool) :
    runTicks (lineRuns [(true, a), (false, b), (true, c)] ++ bitRuns low high 40 ++ [false, last]) (r.running 4 0 0 0)
      = .next ((r.running 9 0 39 (shiftedIn bits 40)).verify.withEvents []) := by
  have hw₄ : Claims.waits (r.running 4 0 0 0) true 1 0 := .inl ⟨rfl, rfl, rfl, rfl⟩
  have hw₅ : Claims.waits (r.running 5 1 0 0) false 2 0 := .inr (.inl ⟨rfl, rfl, rfl, rfl⟩)
  have hw₆ : Claims.waits (r.running 6 1 0 0) true 3 0 := .inr (.inr (.inl ⟨rfl, rfl, rfl, rfl⟩))
  have hhand : runTicks (lineRuns [(true, a), (false, b), (true, c)]) (r.running 4 0 0 0) = .next (r.running 6 c 0 0) := by
    rw [lineRuns, runTicks_append_of_next (runTicks_running hr a 0 (by omega) hw₄), lineRuns,
      runTicks_append_of_next (runTicks_entering hr hw₅ (tick_ends_ack1 hr _ _ _) hb hb'), lineRuns, lineRuns, List.append_nil]
    exact runTicks_entering hr hw₆ (tick_ends_ack2 hr _ _ _) hc hc'
  obtain ⟨w, hrun, hlow⟩ := runTicks_bitRuns hr hruns c 40 le_rfl
  rw [List.append_assoc, runTicks_append_of_next hhand, runTicks_append_of_next hrun, runTicks_cons, hlow]
  change runTicks [last] (r.running 9 0 39 (shiftedIn bits 40)) = _
  have hcheck : exec (decodePH (phWord 9 last)) (r.running 9 0 39 (shiftedIn bits 40))
      = .next (r.running 9 0 39 (shiftedIn bits 40)).verify :=
    (congrArg (exec · _) (decodePH_phWord 9 last)).trans (exec_tickChecksum_out last hr)
  rw [runTicks_cons, show (r.running 9 0 39 (shiftedIn bits 40)).phase = 9 from rfl, hcheck]
  rfl

/-- The 40 wire bits of a frame, in time order, shift that frame in (R52, R81, R102). -/
theorem shiftedIn_wireBit (frame : BitVec 40) : shiftedIn (wireBit frame) 40 = frame := by
  apply BitVec.eq_of_getLsbD_eq
  intro j hj
  rw [shiftedIn_getLsbD _ hj hj, wireBit]
  exact congrArg frame.getLsbD (by omega)

/-- The checksum of an assembled frame as a sum of bytes (R103). -/
theorem checksumGood_append_iff (b₀ b₁ b₂ b₃ b₄ : Byte) :
    checksumGood (b₀ ++ b₁ ++ b₂ ++ b₃ ++ b₄) = true ↔ b₄ = b₀ + b₁ + b₂ + b₃ := by
  rw [checksumIsTheByteSum, ← BitVec.toNat_inj]
  simp only [BitVec.toNat_add]
  omega

/-- Settles O28: the runs shift the frame in, and the CHECKSUM tick decides between SUCCESS_ENTRY and ChecksumError. -/
theorem frameRoundTrip : Obligations.FrameRoundTrip := by
  intro s b₀ b₁ b₂ b₃ b₄ drive a b c low high last hr hidle hlen ha hb hb' hc hc' hruns
  have hr' : (s.restart Phase.prep).inReset = false := hr
  obtain ⟨h₀, h₁, h₂, h₃, h₄⟩ := frameBytes_append b₀ b₁ b₂ b₃ b₄
  set frame := b₀ ++ b₁ ++ b₂ ++ b₃ ++ b₄
  have hrun := runTicks_frame hr' ha hb hb' hc hc' hruns last
  rw [shiftedIn_wireBit] at hrun
  refine ⟨((s.restart Phase.prep).running 9 0 39 frame).verify.withEvents [], ?_, fun hsum => ?_, fun hsum => ?_⟩
  · rw [List.append_assoc, List.append_assoc, runStart_release hr hidle hlen, ← List.append_assoc]
    exact hrun
  · have hgood : checksumGood frame = true := (checksumGood_append_iff ..).mpr hsum
    rw [verify_good (s := (s.restart Phase.prep).running 9 0 39 frame) hgood]
    refine ⟨rfl, rfl, rfl, rfl, rfl, h₀, h₁, h₂, h₃, h₄, ?_, ?_, ?_⟩
    · rw [← h₀, ← h₁, ← h₂, ← h₃]
      rfl
    · rw [← h₄]
      rfl
    · rw [← h₀, ← h₂]
      rfl
  · have hbad : checksumGood frame = false := Bool.eq_false_iff.mpr (mt (checksumGood_append_iff ..).mp hsum)
    rw [verify_bad (s := (s.restart Phase.prep).running 9 0 39 frame) hbad]
    exact ⟨rfl, rfl, rfl, rfl, rfl, rfl, rfl, rfl⟩

end Sys2Proof.Machine

/-! The length of a transaction: how early and how late each of its phases can come, and the proof of the statement of
70_reset_and_hazards.md on its end. -/

namespace Sys2Proof.Machine

/-! ## How early and how late bit `i` can come -/

/-- `i` bits `sh` are decoded `m` ticks after the release, where a bit takes 2 to 200 ticks and what is no bit takes `lo` to
`hi`. A 1 is high for 30 ticks more than the shortest bit, and a 0 for 70 fewer than the longest (R100). -/
def BitsInTime (lo hi m i : Nat) (sh : BitVec 40) : Prop :=
  (lo + 2 * i ≤ m ∧ m ≤ hi + 200 * i) ∧ (sh ≠ 0 → lo + 2 * i + 30 ≤ m) ∧ (sh.toNat + 1 ≠ 2 ^ i → m + 70 ≤ hi + 200 * i)

theorem bitsInTime_none {lo hi m : Nat} (hlo : lo ≤ m) (hhi : m ≤ hi) : BitsInTime lo hi m 0 0 :=
  ⟨⟨by omega, by omega⟩, fun h => absurd rfl h, fun h => absurd rfl h⟩

/-- A tick that decodes no bit, within a phase or from a low phase to the high one. -/
theorem bitsInTime_tick {lo hi lo' hi' m i : Nat} {sh : BitVec 40} (h : BitsInTime lo hi m i sh) (hlo : lo' ≤ lo + 1)
    (hhi : hi + 1 ≤ hi') : BitsInTime lo' hi' (m + 1) i sh := by
  obtain ⟨⟨hm, hm'⟩, hsome, hless⟩ := h
  refine ⟨⟨by omega, by omega⟩, fun hne => ?_, fun hne => ?_⟩
  · have := hsome hne
    omega
  · have := hless hne
    omega

/-- The tick that ends a high phase of `c` ticks. -/
theorem bitsInTime_shift {c m i : Nat} {sh : BitVec 40} (h : BitsInTime (3 + c) (400 + c) m i sh) (hc : 1 ≤ c) (hc' : c ≤ 100)
    (hsh : sh.toNat < 2 ^ i) (hi : i ≤ 39) : BitsInTime 3 301 (m + 1) (i + 1) (shiftInBit sh (decide (30 < c))) := by
  obtain ⟨⟨hlo, hhi⟩, hsome, hless⟩ := h
  have hpow : 2 ^ i ≤ 2 ^ 39 := Nat.pow_le_pow_right (by decide) hi
  have hval : (shiftInBit sh (decide (30 < c))).toNat = 2 * sh.toNat + (decide (30 < c)).toNat := by
    have hb := Bool.toNat_le (decide (30 < c))
    rw [shiftInBit_toNat]
    exact Nat.mod_eq_of_lt (by omega)
  refine ⟨⟨by omega, by omega⟩, fun hne => ?_, fun hne => ?_⟩
  · by_cases hzero : sh = 0
    · have hone : 30 < c := by
        by_contra hshort
        refine hne (BitVec.eq_of_toNat_eq ?_)
        rw [hval, hzero]
        simp [hshort]
      omega
    · have := hsome hzero
      omega
  · by_cases hones : sh.toNat + 1 = 2 ^ i
    · have hshort : ¬ 30 < c := by
        intro hlong
        refine hne ?_
        rw [hval, pow_succ]
        simp [hlong]
        omega
      omega
    · have := hless hones
      omega

/-! ## How early and how late a phase can come -/

/-- The running transaction `u` can stand where it does `m` ticks after the release of the line (R136). -/
inductive InTime (m : Nat) (u : State) : Prop where
  | ack1 (hp : u.phase = 4) (hc : u.cnt.toNat ≤ 100) (hm : m = u.cnt.toNat) (hsh : u.shreg = 0)
  | ack2 (hp : u.phase = 5) (hc : 1 ≤ u.cnt.toNat ∧ u.cnt.toNat ≤ 100) (hm : u.cnt.toNat ≤ m ∧ m ≤ 100 + u.cnt.toNat)
      (hsh : u.shreg = 0)
  | ack3 (hp : u.phase = 6) (hc : 1 ≤ u.cnt.toNat ∧ u.cnt.toNat ≤ 100) (hm : 1 + u.cnt.toNat ≤ m ∧ m ≤ 200 + u.cnt.toNat)
      (hsh : u.shreg = 0)
  | bitLow (hp : u.phase = 7) (hc : 1 ≤ u.cnt.toNat ∧ u.cnt.toNat ≤ 100) (hi : u.bitIdx.toNat ≤ 39)
      (hsh : u.shreg.toNat < 2 ^ u.bitIdx.toNat)
      (hm : BitsInTime (2 + u.cnt.toNat) (300 + u.cnt.toNat) m u.bitIdx.toNat u.shreg)
  | bitHigh (hp : u.phase = 8) (hc : 1 ≤ u.cnt.toNat ∧ u.cnt.toNat ≤ 100) (hi : u.bitIdx.toNat ≤ 39)
      (hsh : u.shreg.toNat < 2 ^ u.bitIdx.toNat)
      (hm : BitsInTime (3 + u.cnt.toNat) (400 + u.cnt.toNat) m u.bitIdx.toNat u.shreg)
  | checksum (hp : u.phase = 9) (hm : BitsInTime 3 301 m 40 u.shreg)

/-- The transaction has ended with the tick that is number `m` from the release on, in the bounds of R137. -/
def EndsInTime (m : Nat) (u : State) : Prop :=
  u.ended = true ∧ u.done = true ∧ (84 ≤ m ∧ m ≤ 8302) ∧ (u.ok = false → 101 ≤ m) ∧ (u.ok = true → m < 8302)

theorem endsInTime_failed {m : Nat} (hlo : 100 ≤ m) (hhi : m ≤ 8301) (u : State) (code : BitVec 4) (i : BitVec 6) :
    EndsInTime (m + 1) (Claims.failed u code i) :=
  ⟨rfl, rfl, ⟨by omega, by omega⟩, fun _ => by omega, fun h => nomatch h⟩

theorem inTime_busy {m : Nat} {u : State} (h : InTime m u) : u.busy = true := by
  cases h with
  | ack1 hp | ack2 hp | ack3 hp | bitLow hp | bitHigh hp | checksum hp => simp [State.busy, hp]

theorem inTime_le {m : Nat} {u : State} (h : InTime m u) : m ≤ 8301 := by
  cases h with
  | ack1 hp hc hm => omega
  | ack2 hp hc hm => omega
  | ack3 hp hc hm => omega
  | bitLow hp hc hi hsh hm | bitHigh hp hc hi hsh hm =>
    obtain ⟨⟨-, hhi⟩, -⟩ := hm
    omega
  | checksum hp hm =>
    obtain ⟨⟨-, hhi⟩, -⟩ := hm
    omega

/-! ## One tick of a running transaction, by its phase -/

/-- What a tick number `m` from the release on may leave: the transaction runs on in time, or has ended in time. -/
def InTimeOrEnds (m : Nat) (u : State) : Prop :=
  InTime m u ∨ EndsInTime m u

theorem count_of_le {u : State} (h : u.cnt.toNat ≤ 99) : (u.cnt + 1).toNat = u.cnt.toNat + 1 :=
  count_toNat (s := u) (by omega)

theorem tick_ack1_inTime {m : Nat} {u : State} (smp : Bool) (hr : u.inReset = false) (hp : u.phase = 4)
    (hc : u.cnt.toNat ≤ 100) (hm : m = u.cnt.toNat) (hsh : u.shreg = 0) :
    ∃ v, exec (decodePH (phWord u.phase smp)) u = .next v ∧ InTimeOrEnds (m + 1) v := by
  obtain ⟨hexec, -, -, hrow, -⟩ := handshakeTicks u smp hr
  rw [hp, hrow]
  refine ⟨_, hexec, ?_⟩
  split
  · exact .inl (.ack2 rfl one_in_run (by simp; omega) hsh)
  split
  · next hcount =>
    refine .inl (.ack1 hp ?_ ?_ hsh) <;> simp only [count_of_le hcount] <;> omega
  · exact .inr (endsInTime_failed (by omega) (by omega) ..)

theorem tick_ack2_inTime {m : Nat} {u : State} (smp : Bool) (hr : u.inReset = false) (hp : u.phase = 5)
    (hc : 1 ≤ u.cnt.toNat ∧ u.cnt.toNat ≤ 100) (hm : u.cnt.toNat ≤ m ∧ m ≤ 100 + u.cnt.toNat) (hsh : u.shreg = 0) :
    ∃ v, exec (decodePH (phWord u.phase smp)) u = .next v ∧ InTimeOrEnds (m + 1) v := by
  obtain ⟨-, hexec, -, -, hrow, -⟩ := handshakeTicks u smp hr
  rw [hp, hrow]
  refine ⟨_, hexec, ?_⟩
  split
  · exact .inl (.ack3 rfl one_in_run (by simp; omega) hsh)
  split
  · next hcount =>
    refine .inl (.ack2 hp ?_ ?_ hsh) <;> simp only [count_of_le hcount] <;> omega
  · exact .inr (endsInTime_failed (by omega) (by omega) ..)

theorem tick_ack3_inTime {m : Nat} {u : State} (smp : Bool) (hr : u.inReset = false) (hp : u.phase = 6)
    (hc : 1 ≤ u.cnt.toNat ∧ u.cnt.toNat ≤ 100) (hm : 1 + u.cnt.toNat ≤ m ∧ m ≤ 200 + u.cnt.toNat) (hsh : u.shreg = 0) :
    ∃ v, exec (decodePH (phWord u.phase smp)) u = .next v ∧ InTimeOrEnds (m + 1) v := by
  obtain ⟨-, -, hexec, -, -, hrow⟩ := handshakeTicks u smp hr
  rw [hp, hrow]
  refine ⟨_, hexec, ?_⟩
  split
  · refine .inl (.bitLow rfl one_in_run (Nat.zero_le _) (by simp [hsh]) ?_)
    simp only [hsh]
    exact bitsInTime_none (by simp; omega) (by simp; omega)
  split
  · next hcount =>
    refine .inl (.ack3 hp ?_ ?_ hsh) <;> simp only [count_of_le hcount] <;> omega
  · exact .inr (endsInTime_failed (by omega) (by omega) ..)

theorem tick_bitLow_inTime {m : Nat} {u : State} (smp : Bool) (hr : u.inReset = false) (hp : u.phase = 7)
    (hc : 1 ≤ u.cnt.toNat ∧ u.cnt.toNat ≤ 100) (hi : u.bitIdx.toNat ≤ 39) (hsh : u.shreg.toNat < 2 ^ u.bitIdx.toNat)
    (hm : BitsInTime (2 + u.cnt.toNat) (300 + u.cnt.toNat) m u.bitIdx.toNat u.shreg) :
    ∃ v, exec (decodePH (phWord u.phase smp)) u = .next v ∧ InTimeOrEnds (m + 1) v := by
  obtain ⟨hexec, -, hrow, -⟩ := bitTicks u smp hr
  obtain ⟨hlo, hhi⟩ := hc
  rw [hp, hrow]
  refine ⟨_, hexec, ?_⟩
  split
  · exact .inl (.bitHigh rfl one_in_run hi hsh (bitsInTime_tick hm (by simp; omega) (by simp; omega)))
  split
  · next hcount =>
    refine .inl (.bitLow hp ?_ hi hsh ?_) <;> simp only [count_of_le hcount]
    · omega
    · exact bitsInTime_tick hm (by omega) (by omega)
  · obtain ⟨⟨hm', hm''⟩, -⟩ := hm
    exact .inr (endsInTime_failed (by omega) (by omega) ..)

theorem tick_bitHigh_inTime {m : Nat} {u : State} (smp : Bool) (hr : u.inReset = false) (hp : u.phase = 8)
    (hc : 1 ≤ u.cnt.toNat ∧ u.cnt.toNat ≤ 100) (hi : u.bitIdx.toNat ≤ 39) (hsh : u.shreg.toNat < 2 ^ u.bitIdx.toNat)
    (hm : BitsInTime (3 + u.cnt.toNat) (400 + u.cnt.toNat) m u.bitIdx.toNat u.shreg) :
    ∃ v, exec (decodePH (phWord u.phase smp)) u = .next v ∧ InTimeOrEnds (m + 1) v := by
  obtain ⟨-, hexec, -, hrow⟩ := bitTicks u smp hr
  obtain ⟨hlo, hhi⟩ := hc
  rw [hp, hrow]
  refine ⟨_, hexec, ?_⟩
  rw [← shiftInBit_classifyBit]
  have hshift : BitsInTime 3 301 (m + 1) (u.bitIdx.toNat + 1) (shiftInBit u.shreg (classifyBit u.cnt.toNat)) :=
    bitsInTime_shift hm hlo hhi hsh hi
  split
  · split
    · next hcount =>
      refine .inl (.bitHigh hp ?_ hi hsh ?_) <;> simp only [count_of_le hcount]
      · omega
      · exact bitsInTime_tick hm (by omega) (by omega)
    · obtain ⟨⟨hm', hm''⟩, -⟩ := hm
      exact .inr (endsInTime_failed (by omega) (by omega) ..)
  split
  · next hlast =>
    rw [hlast] at hshift
    exact .inl (.checksum rfl hshift)
  · next hlast =>
    obtain ⟨hsucc, hle⟩ := bitIdx_succ_toNat (s := u) (fun h => hlast (by rw [h]; rfl)) hi
    refine .inl (.bitLow rfl one_in_run ?_ ?_ ?_) <;> simp only [hsucc]
    · omega
    · exact shiftInBit_lt _ hsh
    · exact hshift

/-- Frames of only zeros have their checksum, and frames of only ones do not (R103). -/
theorem checksumGood_zeros_ones : checksumGood 0 = true ∧ checksumGood (BitVec.allOnes 40) = false := by
  decide

theorem eq_allOnes_of_toNat {sh : BitVec 40} (h : sh.toNat + 1 = 2 ^ 40) : sh = BitVec.allOnes 40 := by
  apply BitVec.eq_of_toNat_eq
  rw [BitVec.toNat_allOnes]
  omega

theorem tick_checksum_inTime {m : Nat} {u : State} (smp : Bool) (hr : u.inReset = false) (hp : u.phase = 9)
    (hm : BitsInTime 3 301 m 40 u.shreg) :
    ∃ v, exec (decodePH (phWord u.phase smp)) u = .next v ∧ InTimeOrEnds (m + 1) v := by
  obtain ⟨⟨hlo, hhi⟩, hsome, hless⟩ := hm
  obtain ⟨hzeros, hones⟩ := checksumGood_zeros_ones
  rw [hp, show decodePH (phWord 9 smp) = .tickChecksum smp from decodePH_phWord 9 smp, exec_tickChecksum_out smp hr]
  refine ⟨_, rfl, .inr ?_⟩
  cases hsum : checksumGood u.shreg
  · have hne : u.shreg ≠ 0 := fun h => Bool.false_ne_true (hsum.symm.trans (h ▸ hzeros))
    have := hsome hne
    rw [verify_bad hsum]
    exact ⟨rfl, rfl, ⟨by omega, by omega⟩, fun _ => by omega, fun h => nomatch h⟩
  · have hne : u.shreg.toNat + 1 ≠ 2 ^ 40 := fun h =>
      Bool.false_ne_true (hones.symm.trans (eq_allOnes_of_toNat h ▸ hsum))
    have := hless hne
    rw [verify_good hsum]
    exact ⟨rfl, rfl, ⟨by omega, by omega⟩, fun h => (nomatch h), fun _ => by omega⟩

theorem tick_inTime {m : Nat} {u : State} (smp : Bool) (hr : u.inReset = false) (h : InTime m u) :
    ∃ v, exec (decodePH (phWord u.phase smp)) u = .next v ∧ InTimeOrEnds (m + 1) v := by
  cases h with
  | ack1 hp hc hm hsh => exact tick_ack1_inTime smp hr hp hc hm hsh
  | ack2 hp hc hm hsh => exact tick_ack2_inTime smp hr hp hc hm hsh
  | ack3 hp hc hm hsh => exact tick_ack3_inTime smp hr hp hc hm hsh
  | bitLow hp hc hi hsh hm => exact tick_bitLow_inTime smp hr hp hc hi hsh hm
  | bitHigh hp hc hi hsh hm => exact tick_bitHigh_inTime smp hr hp hc hi hsh hm
  | checksum hp hm => exact tick_checksum_inTime smp hr hp hm

/-! ## The whole transaction -/

theorem samplesOf_length (line : Nat → Bool) (n : Nat) : (samplesOf line n).length = n := by
  rw [samplesOf, List.length_map, List.length_range]

theorem samplesOf_succ (line : Nat → Bool) (n : Nat) :
    samplesOf line (n + 1) = line 0 :: samplesOf (fun k => line (k + 1)) n := by
  rw [samplesOf, List.range_succ_eq_map, List.map_cons, List.map_map]
  rfl

theorem samplesOf_add (line : Nat → Bool) (m n : Nat) :
    samplesOf line (m + n) = samplesOf line m ++ samplesOf (fun k => line (m + k)) n := by
  rw [samplesOf, List.range_add, List.map_append, List.map_map]
  rfl

/-- A running transaction ends, whatever the line does: by induction on the ticks left to 8302. -/
theorem runTicks_ends (left : Nat) : ∀ {m : Nat} {u : State} (line : Nat → Bool), u.inReset = false → InTime m u →
    8302 ≤ m + left →
    ∃ d t, (∀ k, k < d → ∃ w, runTicks (samplesOf line k) u = .next w ∧ w.busy = true)
      ∧ runTicks (samplesOf line d) u = .next t ∧ EndsInTime (m + d) t := by
  induction left with
  | zero =>
    intro m u line _ h hle
    have := inTime_le h
    omega
  | succ left ih =>
    intro m u line hr h hle
    obtain ⟨v, hv, hnext⟩ := tick_inTime (line 0) hr h
    have hrest (k : Nat) : runTicks (samplesOf line (k + 1)) u = runTicks (samplesOf (fun k => line (k + 1)) k) v := by
      rw [samplesOf_succ, runTicks_cons, hv]
      rfl
    have hnow : ∃ w, runTicks (samplesOf line 0) u = .next w ∧ w.busy = true := ⟨u.withEvents [], rfl, inTime_busy (u := u) h⟩
    rcases hnext with hin | hend
    · obtain ⟨-, -, hN, -, h₂⟩ := exec_keeps_pending _ hv
      obtain ⟨d, t, hbusy, hrun, hend⟩ := ih (fun k => line (k + 1)) ((inReset_congr hN h₂).trans hr) hin (by omega)
      refine ⟨d + 1, t, fun k hk => ?_, (hrest d).trans hrun, by rwa [← Nat.add_assoc, Nat.add_right_comm]⟩
      cases k with
      | zero => exact hnow
      | succ k =>
        rw [hrest k]
        exact hbusy k (by omega)
    · refine ⟨1, v.withEvents [], fun k hk => ?_, hrest 0, hend⟩
      obtain rfl : k = 0 := by omega
      exact hnow

theorem startPulse_busy (k : Nat) (s : State) : (s.startPulse k).busy = true := by
  unfold State.startPulse
  repeat' split
  all_goals rfl

/-- Settles O27: the start pulse is busy for 18031 samples and comes to ACK1 in time, from where the transaction ends in time.
-/
theorem everyTransactionEnds : Obligations.EveryTransactionEnds := by
  intro s line hr hidle
  have hrelease (j : Nat) := runStart_release hr hidle (samplesOf_length line 18031) (samplesOf (fun k => line (18031 + k)) j)
  have hstart : InTime 0 ((s.restart Phase.prep).running 4 0 0 0) := .ack1 rfl (Nat.zero_le _) rfl rfl
  obtain ⟨d, t, hbusy, hrun, hended, hdone, ⟨hlo, hhi⟩, hfail, hok⟩ :=
    runTicks_ends 8302 (u := (s.restart Phase.prep).running 4 0 0 0) (fun k => line (18031 + k)) hr hstart
      (Nat.le_add_left 8302 0)
  rw [Nat.zero_add] at hlo hhi hfail hok
  refine ⟨18030 + d, t, by omega, by omega, fun k hk => ?_, ?_, hended, hdone, fun h => ?_, fun h => ?_⟩
  · rcases Nat.lt_or_ge k 18031 with hpulse | hafter
    · have hlen := samplesOf_length line k
      refine ⟨_, runStart_startPulse hr hidle (by omega), ?_⟩
      exact startPulse_busy _ s
    · obtain ⟨j, rfl⟩ := Nat.exists_eq_add_of_le hafter
      rw [samplesOf_add, hrelease]
      exact hbusy j (by omega)
  · rw [show 18030 + d + 1 = 18031 + d by omega, samplesOf_add, hrelease]
    exact hrun
  · have := hfail h
    omega
  · have := hok h
    omega

end Sys2Proof.Machine
